-- ==== Sys2Proof/Word.lean ====
section
/-! DEFINITION. The word types of the part: 16-bit words (00_scope.md, Conventions), bytes of frames and byte lanes,
32-bit container sequence numbers, and 64-bit times in nanoseconds. -/

namespace Sys2Proof

/-- A word of SRAM: 16 bits. -/
abbrev Word := BitVec 16

/-- A byte of a frame or of a switch message, and one byte lane of a word. -/
abbrev Byte := BitVec 8

/-- A time: the whole part of local time, in nanoseconds modulo 2^64 (R1). -/
abbrev Time := BitVec 64

/-- A container sequence number, modulo 2^32 (R31). -/
abbrev Seq := BitVec 32

end Sys2Proof
end

