-- ==== Sys2Proof/Syntax.lean ====
section
/-! DEFINITION. The commands of the part: one constructor per row of spec/opcode_table.json, with the operands the
row's rule gives it. The rows give no bits. -/

namespace Sys2Proof

/-- The byte lanes of a processor access (05, Settings and R93). -/
inductive Lanes where
  | upper
  | lower
  | both
  deriving DecidableEq, Repr

/-- Grant levels, in rising order (08). -/
inductive Level where
  | none
  | view
  | adjust
  | maintain
  deriving DecidableEq, Repr

/-- The five bytes of a PORT_STATE message as they arrive on the switch control line (13.6, R191). -/
structure PortMsg where
  b0 : Byte
  b1 : Byte
  b2 : Byte
  b3 : Byte
  b4 : Byte
  deriving DecidableEq, Repr

/-- How a store to the settings memory failed (R189): a write was not answered after `done` writes of the store's
sequence had been made; a read back was not answered at a word address; or a word read back differed. -/
inductive StoreFault where
  | writeNoAnswer (done : Nat)
  | readNoAnswer (addr : Nat)
  | mismatch (addr : Nat) (got : Word)
  deriving DecidableEq, Repr

/-- The request words whose full-word writes may name no action of theirs (the row REQUEST_BAD_VALUE). -/
inductive BadTarget where
  | control
  | policy
  | grant
  | port
  deriving DecidableEq, Repr

/-- The commands. Each constructor is one row of the table. -/
inductive Instr where
  | fullReset
  | imageCheckEnd (answers : Bool)
  | activeEntry
  | storeComplete
  | storeFailed (f : StoreFault)
  | processorAccess (write : Bool) (addr : BitVec 19) (lanes : Lanes) (data : Word)
  | memoryWrite (addr : BitVec 19) (lanes : Lanes) (data : Word)
  | memorySlot
  | noticeFlagsWrite (lanes : Lanes) (data : Word)
  | noticeEnablesWrite (lanes : Lanes) (data : Word)
  | globalEnableWrite (lanes : Lanes) (data : Word)
  | handover (r : Fin 8) (w : Word)
  | take (r : Fin 8) (w : Word)
  | grantOpen (level : Level) (minutes : Byte)
  | grantClose (minutes : Byte)
  | portDisable (p : Fin 16)
  | portEnable (p : Fin 16)
  | portRelease (p : Fin 16)
  | policyNormal
  | policyRejectAll
  | policyBypass
  | markLow (w : Word)
  | mark (w : Word)
  | outcomeRead (w : Word)
  | eventRead (w : Word)
  | generalOut (mask levels : Byte)
  | lineReset
  | reload
  | reloadAndStore
  | refusalRearm
  | faultReload
  | faultReloadAndStore
  | timeCapture (w : Word)
  | frameArrivalStart (bytes : List Byte)
  | frameAdmission
  | frameReceptionEnd (check : Option (BitVec 32))
  | answerStart
  | answerComplete (r : Fin 8)
  | cycle
  | frameTxStart
  | frameTxComplete
  | checkStart
  | limitPassEnd
  | checkComplete
  | linePinChange (l : Fin 16) (high : Bool)
  | debounceEnd (l : Fin 16)
  | stopTimeout
  | triggerPulseEnd (c : Fin 4)
  | cameraReady (c : Fin 4)
  | fireTime
  | ejectorPulseEnd
  | confirmDeadline
  | holdoverTimeout
  | keyLineChange (keyB : Bool) (high : Bool)
  | keyDebounceEnd
  | grantExpiry
  | blinkStart
  | lampToggle
  | cyclePulseEnd
  | commandSend
  | commandSendComplete
  | portStateReply (m : PortMsg)
  | portStateNotice (m : PortMsg)
  | portStateDiscard (m : PortMsg)
  | replyTimeout
  | flapWindowEnd (p : Fin 16)
  | clockTick
  | requestBadValue (t : BadTarget) (w : Word)
  deriving DecidableEq, Repr

end Sys2Proof
end

