-- ==== Sys2Proof/Config.lean ====
section
/-! DEFINITION. The configuration: the settings that an accepted image gives the blocks (12 and 13.5), the fixed
quantities of the manual, and the free values, opaque constants that nothing can evaluate. -/

namespace Sys2Proof

/-! ### Free values (log 11) -/

/-- FREE VALUE. The second detail word of the ENCODER_ERROR event that a rejected reload appends: R44 states the first
word only. -/
opaque Config.freeWord : Nat → BitVec 16

/-- FREE VALUE. How many writes of a store had reached the settings memory when a full reset ended it: R189 says only
that word 0 may be left at 0. -/
opaque Config.freeStored : Nat → Nat

/-- FREE VALUE. The 4-byte frame check of the bytes before it: R191 says what it covers and not how it is formed. -/
opaque Config.frameCheck : List (BitVec 8) → BitVec 32

/-- FREE VALUE. How much of a frame had been sent when the port ended its transmission: R127 says only that it was in
transmission. -/
opaque Config.sentBytes : Nat → Nat → Nat

/-- FREE VALUE. By how much the frame check that closes an ended frame misses: R127 says only that it cannot match. -/
opaque Config.spoiledBy : Nat → Nat → Nat

/-! ### Fixed quantities -/

/-- What a tick adds to local time but for a carry or borrow of the fraction, 8 ns (R1). -/
def Config.tickNs : Nat := 8
/-- One millisecond in nanoseconds. -/
def Config.msNs : Nat := 1000000
/-- The limit of the correction c, in units of 2^-32 ns per tick (1.1). -/
def Config.corrLimit : Int := 6871947
/-- The margin M of the firing, 20,000 ns (04, Settings). -/
def Config.marginNs : Int := 20000
/-- The key debounce, 20 ms (08, Settings). -/
def Config.keyDebounceNs : Nat := 20 * Config.msNs
/-- The blinking span of a grant, 5 minutes (R143). -/
def Config.blinkSpanNs : Nat := 300 * 1000 * Config.msNs
/-- Half a period of the blinking lamp, 500 ms (R170). -/
def Config.toggleNs : Nat := 500 * Config.msNs
/-- The reply timeout of a switch command, 50 ms (R154). -/
def Config.replyNs : Nat := 50 * Config.msNs
/-- The default control page base, 7F000h (R97, R186). -/
def Config.defaultPage : Nat := 0x7F000
/-- Words of SRAM: addresses run from 0 to 7FFFFh (00_scope.md). -/
def Config.sramWords : Nat := 0x80000
/-- The greatest image length in words (R183). -/
def Config.maxImage : Nat := 3072
/-- The words of the image header (13.5). -/
def Config.headerWords : Nat := 27
/-- The bytes of the shortest Ethernet frame without its 4-byte check: R191 pads to the least length Ethernet allows and
does not give it (PRESUMED, log 53). -/
def Config.leastFrame : Nat := 60

/-! ### Settings -/

/-- Region kinds, in the order of their codes (05, Settings; 13.5). -/
inductive RegionKind where
  | outputWindow
  | inputWindow
  | outputBanks
  | inputBanks
  | safeImages
  | limits
  | outcomeRing
  | guarded
  deriving DecidableEq, Repr

/-- One entry of the region table, addresses and lengths in words. -/
structure Region where
  base : Nat
  len : Nat
  kind : RegionKind
  robot : Fin 8
  /-- guarded class MAINTAIN (else ADJUST); read for GUARDED regions only -/
  maintain : Bool
  deriving DecidableEq, Repr

/-- Time settings (01, Settings). -/
structure TimeCfg where
  sourceId : Word
  pathDelay : Nat
  stepThreshold : Nat
  lockWindow : Nat
  holdoverS : Nat
  gp : Nat
  gi : Nat
  periodUs : Nat
  phaseUs : Nat
  deriving DecidableEq, Repr

/-- Tracking settings (02, Settings). `pitchLen` is as held, counts × 256. -/
structure TrackCfg where
  len : Nat
  pitchLen : Nat
  bLeads : Bool
  stopMs : Nat
  periodMinUs : Nat
  periodMaxUs : Nat
  shift : Nat
  decidePos : Nat
  fillWindow : Nat
  deriving DecidableEq, Repr

/-- Robot settings (06 and 07, Settings; the station is in 02). -/
structure RobotCfg where
  nOut : Nat
  motion : Nat
  nIn : Nat
  applyUs : Nat
  sampleUs : Nat
  missedLimit : Nat
  watchdog : Nat
  nextCycle : Bool
  station : Nat
  deriving DecidableEq, Repr

/-- Camera settings (03, Settings). -/
structure CameraCfg where
  pos : Nat
  exponent : Nat
  residue : Nat
  unsurePass : Bool
  defectMax : Nat
  pulseUs : Nat
  deriving DecidableEq, Repr

/-- Ejector settings (04, Settings). -/
structure EjectCfg where
  pos : Nat
  fraction : Nat
  leadUs : Nat
  pulseMs : Nat
  confirmMs : Nat
  deriving DecidableEq, Repr

/-- Port roles (09, Settings). -/
inductive Role where
  | robot (r : Fin 8)
  | camera (c : Fin 4)
  | hall
  | service
  | spare
  deriving DecidableEq, Repr

/-- Port roles and flap settings (09, Settings). -/
structure PortCfg where
  tagMarker : Word
  hallType : Word
  flapS : Nat
  flapLimit : Nat
  roles : Vector Role 16
  deriving DecidableEq, Repr

/-- Line functions (10, Settings). -/
inductive LineFn where
  | none
  | encoderA
  | encoderB
  | presence
  | ejectConfirm
  | keyA
  | keyB
  | generalIn
  | trigger (c : Fin 4)
  | ejector
  | grantLamp
  | cyclePulse
  | runOut
  | generalOut
  deriving DecidableEq, Repr

/-- One record of the line table. -/
structure LineCfg where
  fn : LineFn
  activeLow : Bool
  openDrain : Bool
  debounceUs : Nat
  pulseUs : Nat
  deriving DecidableEq, Repr

/-- A whole accepted configuration (R183). `safe` and `limits` are the sections copied into SRAM (R185); `safe` is one
list of motion words per robot, empty where the robot is not configured. -/
structure Settings where
  generation : Word
  regions : List Region
  page : Nat
  time : TimeCfg
  track : TrackCfg
  rota : List (Fin 8)
  robots : Vector (Option RobotCfg) 8
  cameras : Vector (Option CameraCfg) 4
  eject : EjectCfg
  ports : PortCfg
  lines : Vector LineCfg 16
  safe : Vector (List Word) 8
  limits : List Word
  deriving DecidableEq, Repr

end Sys2Proof
end

