-- ==== Sys2Proof/Machine/State.lean ====
section
/-! DEFINITION. The state of the part: every piece of state the chapters give its eleven blocks (00_scope.md, Block
diagram), the SRAM and the settings memory, and the queue of commands; and the state after a full reset. -/

namespace Sys2Proof.Machine

open Sys2Proof

/-! ### Memory -/

/-- Bytes at byte addresses, strictly rising, none 0: word `a` has its LOWER lane at `2 * a` and its UPPER lane at
`2 * a + 1`. An unlisted byte reads as 0 (log 5). -/
abbrev Memory := List Host.Cell

/-! ### Names of states and codes -/

/-- Device states (05); the sub-state STORING is a flag beside it. -/
inductive DeviceState where
  | loading
  | configFault
  | active
  | reloading
  deriving DecidableEq, Repr

/-- Time states, which are also the time qualities (R2). -/
inductive TimeState where
  | free
  | locking
  | locked
  | holdover
  deriving DecidableEq, Repr

/-- Refusal causes (R93). -/
inductive Cause where
  | fixed
  | grantLevel
  | lineRunning
  | partialLanes
  | unassigned
  | loading
  deriving DecidableEq, Repr

/-- Reject policies (04). -/
inductive Policy where
  | normal
  | rejectAll
  | bypass
  deriving DecidableEq, Repr

/-- Output bank roles (06). -/
inductive OutRole where
  | free
  | host
  | check
  | ready
  | link
  deriving DecidableEq, Repr

/-- Input bank roles (07). -/
inductive InRole where
  | free
  | hostIn
  | fresh
  | filling
  deriving DecidableEq, Repr

/-- Robot contexts (07). -/
inductive Context where
  | offline
  | starting
  | running
  | safe
  | lost
  deriving DecidableEq, Repr

/-- Answer states (R130). -/
inductive AnswerState where
  | none
  | due
  | started
  | answered
  | failed
  deriving DecidableEq, Repr

/-- A robot's reported status (R132). -/
inductive Reported where
  | none
  | ready
  | fault
  deriving DecidableEq, Repr

/-- Lamp states (R148). -/
inductive Lamp where
  | off
  | on
  | blinking
  deriving DecidableEq, Repr

/-- Known admin states of a switch port (R153). -/
inductive Known where
  | unknown
  | disabled
  | enabled
  deriving DecidableEq, Repr

/-- Link states of a switch port (R153). -/
inductive Link where
  | unknown
  | down
  | up
  deriving DecidableEq, Repr

/-- Actions of a switch command (R154). -/
inductive CmdAction where
  | enable
  | disable
  | ask
  deriving DecidableEq, Repr

/-- Results of a request (R175). -/
inductive ReqResult where
  | ignored
  | taken
  | pended
  | overrun
  | noFresh
  deriving DecidableEq, Repr

/-- Event kinds (11.3). -/
inductive EventKind where
  | timeStep
  | timeState
  | cycleSlip
  | encoderError
  | reverseLimit
  | lineState
  | lineReset
  | requestIgnored
  | cameraFault
  | policyChange
  | ejectFault
  | limitEntryBad
  | robotState
  | txDropped
  | robotReport
  | grantChange
  | keyInvalid
  | portLink
  | portCommandFailed
  | portOverridden
  | portQuarantined
  | frameMisplaced
  | configRejected
  | storeFailed
  | recipeDropped
  deriving DecidableEq, Repr

/-! ### Access Path -/

/-- What the Access Path made of an access when it was presented (R85, R90, R97). A window carries its robot, the base
and image length of the robot's bank region, the offset, and whether the offset lies in the recipe section. -/
inductive Fate where
  | pass
  | watched
  | window (input : Bool) (r : Fin 8) (base n k : Nat) (recipe : Bool)
  | refuse (c : Cause)
  | classed (maintain : Bool)
  | flags
  | enables
  | globalEnable
  | request (i : Fin 26)
  deriving DecidableEq, Repr

/-- A processor access in flight. `waited` says that it could not be completed at once when it was presented (R100). -/
structure Access where
  write : Bool
  addr : Nat
  lanes : Lanes
  data : Word
  fate : Fate
  held : Bool
  waited : Bool
  deriving DecidableEq, Repr

/-- A filled refusal record (R93). -/
structure Refused where
  addr : Nat
  data : Word
  lanes : Lanes
  cause : Cause
  time : Time
  quality : TimeState
  deriving DecidableEq, Repr

/-- The wait counts of the four internal agents (R99). -/
structure Waits where
  reader : Nat
  deposit : Nat
  engine : Nat
  writer : Nat
  deriving DecidableEq, Repr

/-- The Access Path. -/
structure Bus where
  device : DeviceState
  storing : Bool
  generation : Word
  faultCode : BitVec 4
  faultItem : BitVec 8
  refusals : Word
  record : Option Refused
  reloadRefusals : Word
  reloadRecord : Option Refused
  access : Option Access
  waits : Waits
  readData : Word
  deriving DecidableEq, Repr

/-! ### Time Unit -/

/-- The capture latch (R18). -/
structure Capture where
  time : Time
  state : TimeState
  seq : Byte
  deriving DecidableEq, Repr

/-- The Time Unit (R21). `advance` is the model's own: what the last tick added to `now`, so that two happenings of one
tick can be told (R159; log 46). -/
structure TimeUnit where
  now : Time
  advance : Time
  frac : BitVec 32
  corr : Int
  integ : Int
  saturated : Bool
  state : TimeState
  lockRun : Nat
  lastOffset : BitVec 64
  accepted : Word
  foreign : Word
  malformed : Word
  holdover : Option Time
  nextCycle : Option Time
  lastCycle : Option Time
  schedStart : Option Time
  cycleNumber : Word
  capture : Option Capture
  deriving DecidableEq, Repr

/-! ### Tracking Unit -/

/-- States of a camera slot (03). -/
inductive SlotState where
  | notSelected
  | waiting
  | pass
  | fail
  | unsure
  | missing
  deriving DecidableEq, Repr

/-- A camera slot of a container record (R52). -/
structure Slot where
  state : SlotState
  defects : List Word
  truncated : Bool
  short : Bool
  deriving DecidableEq, Repr

/-- A fill result (R38). -/
structure Fill where
  ok : Bool
  qty : Word
  deriving DecidableEq, Repr

/-- Verdicts of the decision (R62). -/
inductive Verdict where
  | reject
  | pass
  | bypassed
  deriving DecidableEq, Repr

/-- A stored decision: the verdict and the reason set, bit n for the n-th reason of R61's table. -/
structure Decision where
  verdict : Verdict
  reasons : BitVec 10
  deriving DecidableEq, Repr

/-- How an ejector firing came about (R69). -/
inductive FireKind where
  | fired
  | late
  | onPitch
  deriving DecidableEq, Repr

/-- The ejection field of a rejected record (4.3). -/
inductive Ejection where
  | awaitingArm
  | armed (fire : Time)
  | onPitch
  | fired (how : FireKind) (time : Time) (quality : TimeState)
  | missed
  deriving DecidableEq, Repr

/-- What the EJECT_CONFIRM line said about a firing (04). -/
inductive Confirm where
  | confirmed
  | unconfirmed
  | unknown
  deriving DecidableEq, Repr

/-- A container record (R34). -/
structure Record where
  seq : Seq
  entry : Time
  quality : TimeState
  robot : Option (Fin 8)
  empty : Bool
  suspect : Bool
  unannounced : Bool
  fillUnknown : Bool
  fillMissing : Bool
  forced : Bool
  fill : Option Fill
  slots : Vector Slot 4
  decision : Option Decision
  ejection : Option Ejection
  confirm : Option Confirm
  deriving DecidableEq, Repr

/-- An announcement: a sequence number with its SUSPECT flag (2.6). -/
structure Announce where
  seq : Seq
  suspect : Bool
  deriving DecidableEq, Repr

/-- The Tracking Unit. `ring` holds position 0 first; it is empty while no ring is built (R42). -/
structure TrackUnit where
  pairA : Bool
  pairB : Bool
  acc : Int
  excursion : Bool
  running : Bool
  lastPitch : Option Time
  stopAt : Option Time
  runPitches : Word
  period : Option Nat
  intervals : Nat
  ring : List Record
  nextSeq : Seq
  queues : Vector (List Announce) 8
  markLatch : Word
  edgeNoted : Bool
  encoderErrors : Word
  reverseLimits : Word
  overspeeds : Word
  fillDuplicates : Word
  fillLates : Word
  misdirecteds : Word
  unannounceds : Word
  fillUnknowns : Word
  fillMissings : Word
  forceds : Word
  deriving DecidableEq, Repr

/-! ### Camera Unit -/

/-- States of a pending trigger list entry (R49). -/
inductive TrigState where
  | waiting
  | answered
  | expired
  | lateAnswered
  deriving DecidableEq, Repr

/-- An entry of a pending trigger list (R48). -/
structure Trigger where
  count : Byte
  seq : Seq
  time : Time
  quality : TimeState
  state : TrigState
  deriving DecidableEq, Repr

/-- One camera (R58). `pending` is oldest first. -/
structure Camera where
  triggers : Byte
  pending : List Trigger
  pulseEnd : Option Time
  readyAt : Option Time
  latency : Word
  duplicates : Word
  lates : Word
  unmatcheds : Word
  malformeds : Word
  missings : Word
  deriving DecidableEq, Repr

/-! ### Reject Unit -/

/-- An entry of the ejector pending list (R68): ARMED when `deadline` is absent, AWAITING with its confirm deadline.
`inPulse` says that it fired during the pulse in progress (R69, step 3). -/
structure EjectEntry where
  seq : Seq
  fire : Time
  deadline : Option Time
  inPulse : Bool
  deriving DecidableEq, Repr

/-- The Reject Unit (R82). `exitQueue` has its head first. -/
structure RejectUnit where
  policy : Policy
  list : List EjectEntry
  pulseEnd : Option Time
  exitQueue : List Record
  writeIx : Nat
  readIx : Nat
  shownIx : Nat
  dropped : Word
  decided : Word
  rejected : Word
  bypassed : Word
  fired : Word
  late : Word
  onPitch : Word
  missed : Word
  confirmed : Word
  unconfirmed : Word
  unknown : Word
  stray : Word
  deriving DecidableEq, Repr

/-! ### Robot Exchange -/

/-- The metadata of an input bank (7.6). -/
structure InMeta where
  cycle : Word
  sample : Time
  short : Bool
  long : Bool
  deposited : Bool
  deriving DecidableEq, Repr

/-- A fill report entry of an ANSWER frame (2.7). -/
structure FillReport where
  seq : Seq
  ok : Bool
  qty : Word
  deriving DecidableEq, Repr

/-- A valid answer from its start to its completion (R130 to R133): `left` are the words still to be written, the next
at index `next`; `ended` says that its reception ended with a good check; `newer` that a frame of the robot completed
since its start. -/
structure Answer where
  bank : Fin 3
  cycle : Word
  sample : Time
  status : Reported
  fills : List FillReport
  left : List Word
  next : Nat
  short : Bool
  long : Bool
  ended : Bool
  newer : Bool
  deriving DecidableEq, Repr

/-- One robot of the Robot Exchange (R120, R138). -/
structure Robot where
  out : Vector OutRole 3
  masks : Vector (BitVec 2) 3
  pendingMask : Option (BitVec 2)
  stale : Word
  superseded : Word
  overruns : Word
  clamps : Word
  firstClamped : Word
  badEntries : Word
  handovers : Word
  checks : Word
  recipeDrops : Word
  result : ReqResult
  maskByte : Byte
  context : Context
  safePending : Bool
  inp : Vector InRole 3
  infos : Vector InMeta 3
  answerState : AnswerState
  lastCycleSent : Option Word
  lastSend : Option Time
  reported : Reported
  missedRun : Word
  missedTotal : Word
  expiries : Word
  txDropped : Word
  staleAnswers : Word
  dupAnswers : Word
  inputLost : Word
  deposited : Word
  badAnswers : Byte
  latency : Word
  ctxChanges : Word
  answer : Option Answer
  deriving DecidableEq, Repr

/-- A limit entry the word pass uses (R109). -/
structure LimitEntry where
  offset : Nat
  signed : Bool
  lo : Word
  hi : Word
  deriving DecidableEq, Repr

/-- Where the word pass stands with a word: to read it, to write it back clamped, or to copy it forward (R110). -/
inductive WordStage where
  | read
  | writeBack (v : Word)
  | copy (v : Word)
  deriving DecidableEq, Repr

/-- A check in progress: in the limit pass (`used` absent) it collects the words of the 32 entries; in the word pass
it holds the used entries, the word index and its stage. -/
structure CheckRun where
  robot : Fin 8
  limitWords : List Word
  used : Option (List LimitEntry)
  index : Nat
  stage : WordStage
  first : Option Nat
  deriving DecidableEq, Repr

/-- The check engine: its queue, the bank in check at the head, and the check in progress (R108). -/
structure Engine where
  queue : List (Fin 8)
  current : Option CheckRun
  deriving DecidableEq, Repr

/-- A CYCLE frame built (R125): its bytes up to the sections, the section mask it carries, and where its section words
lie in SRAM. -/
structure TxFrame where
  robot : Fin 8
  cycle : Word
  head : List Byte
  mask : BitVec 2
  base : Nat
  len : Nat
  deriving DecidableEq, Repr

/-- The frame in transmission, with the section words read so far (R126). -/
structure Sending where
  frame : TxFrame
  words : List Word
  deriving DecidableEq, Repr

/-- How far the Robot Exchange has come with an admitted ANSWER (R129, R122). -/
inductive AnswerStage where
  | arriving
  | started
  | settled
  | abandoned
  deriving DecidableEq, Repr

/-- For whom an admitted VERDICT or TIME frame is held: the camera its port's role named at admission, or the Time Unit
(R3, R50, R162; log 16). -/
inductive HeldFor where
  | verdict (c : Fin 4)
  | time
  deriving DecidableEq, Repr

/-- How far a frame in reception has been judged (R161, R162). -/
inductive RxStage where
  | arriving
  | discarded
  | held (p : Fin 16) (x : HeldFor)
  | answer (p : Fin 16) (r : Fin 8) (stage : AnswerStage)
  deriving DecidableEq, Repr

/-- A frame in reception: its arrival stamp and its bytes before the frame check (R3). -/
structure Receiving where
  stamp : Time
  bytes : List Byte
  stage : RxStage
  deriving DecidableEq, Repr

/-- The field port. The model's own: `lastSent`, the bytes of the frame that left the port last, sent whole or ended
(log 29), and `endings`, how many frames were ended, the argument of their free values (log 11). -/
structure FieldPort where
  sendList : List TxFrame
  sending : Option Sending
  deposits : List (Fin 8)
  receiving : Option Receiving
  lastSent : List Byte
  endings : Nat
  deriving DecidableEq, Repr

/-! ### Grant Unit -/

/-- The Grant Unit (R151). -/
structure GrantUnit where
  settledA : Bool
  settledB : Bool
  candA : Bool
  candB : Bool
  debounceEnd : Option Time
  isOpen : Bool
  requested : Level
  granted : Level
  duration : Byte
  openTime : Time
  openQuality : TimeState
  expiry : Option Time
  blinkStart : Option Time
  lamp : Lamp
  opened : Word
  keyActions : Word
  expiries : Word
  refused : Word
  keyInvalids : Word
  deriving DecidableEq, Repr

/-! ### Switch Supervisor -/

/-- A port record (R153). -/
structure Port where
  role : Role
  desired : Bool
  known : Known
  link : Link
  quarantined : Bool
  hostDisabled : Bool
  flaps : Nat
  flapEnd : Option Time
  overrides : Byte
  admitted : Word
  misplaced : Byte
  failed : Byte
  changed : Time
  changedQuality : TimeState
  deriving DecidableEq, Repr

/-- A queued switch command (R154). -/
structure Cmd where
  port : Fin 16
  action : CmdAction
  deriving DecidableEq, Repr

/-- The outstanding switch command (R154). -/
structure Outstanding where
  cmd : Cmd
  seq : Byte
  deadline : Option Time
  deriving DecidableEq, Repr

/-- The Switch Supervisor (R165). -/
structure SwitchUnit where
  ports : Vector Port 16
  queue : List Cmd
  outstanding : Option Outstanding
  nextSeq : Byte
  untagged : Word
  badPort : Word
  foreignType : Word
  blocked : Word
  inactive : Word
  lineErrors : Word
  strays : Word
  sent : Word
  failures : Word
  lastPort : Fin 16
  lastMessage : List Byte
  deriving DecidableEq, Repr

/-! ### Line Unit -/

/-- One cabinet line (R167, R168). `record` is absent while the line is RELEASED. -/
structure Line where
  pin : Bool
  record : Option LineCfg
  deferred : Option LineCfg
  accepted : Bool
  candidate : Bool
  debounceEnd : Option Time
  deriving DecidableEq, Repr

/-- The Line Unit (R174). -/
structure LineUnit where
  line : Vector Line 16
  cyclePulseEnd : Option Time
  toggleAt : Option Time
  lampLevel : Bool
  held : Byte
  deriving DecidableEq, Repr

/-! ### Notice Unit, mirror and ring writer, Settings Loader -/

/-- The Notice Unit (R182), with the status each request word shows (R175), offset 16 first. -/
structure NoticeUnit where
  flags : Word
  enables : Word
  globalEnable : Bool
  writeIx : Nat
  readIx : Nat
  shownIx : Nat
  lost : Word
  status : Vector Word 26
  deriving DecidableEq, Repr

/-- What the writer may be asked to rewrite (R101). The enables, the global enable and the write indices of the two rings
are asked for at an entry to ACTIVE only, each a write-out of its own (R182; DESIGN CHOICE, log 47). -/
inductive Mirror where
  | flags
  | enables
  | globalEnable
  | outcomeIndex
  | eventIndex
  | device
  | refusal
  | summary
  | request (i : Fin 26)
  | time
  | port (p : Fin 16)
  | camera (c : Fin 4)
  | line (l : Fin 16)
  | tracking
  | grant
  | reject
  | events
  | switch
  | robot (r : Fin 8)
  deriving DecidableEq, Repr

/-- A write-out (R101): a mirror with the values of its beginning; the capture words (R19); an event or outcome record
with its contents as reserved, followed by the index word (R78, R180); the reading of a staged image and the copies of
safe images and limits, made at the writer's place (R185, R187), each as one entry of the list (DESIGN CHOICE, log 56). -/
inductive Job where
  | mirror (m : Mirror)
  | capture
  | event (slot : Nat) (words : List Word) (index : Nat)
  | outcome (addr : Nat) (words : List Word) (index : Nat)
  | readImage
  | copies
  deriving DecidableEq, Repr

/-- A write-out begun, with the words it still writes, as addresses and data. -/
structure Writing where
  job : Job
  left : List (Nat × Word)
  deriving DecidableEq, Repr

/-- The mirror and ring writer. -/
structure Writer where
  queue : List Job
  current : Option Writing
  deriving DecidableEq, Repr

/-- The Settings Loader. -/
structure Loader where
  image : List Word
  reading : Bool
  copying : Bool
  copied : Bool
  storeAfter : Bool
  accepted : Option Settings
  deriving DecidableEq, Repr

/-! ### The state -/

/-- The state of the machine. -/
structure State where
  pending : List Instr
  free : Nat
  sram : Memory
  settingsMem : Memory
  cfg : Option Settings
  bus : Bus
  time : TimeUnit
  track : TrackUnit
  cameras : Vector Camera 4
  reject : RejectUnit
  robots : Vector Robot 8
  engine : Engine
  field : FieldPort
  grant : GrantUnit
  switch : SwitchUnit
  lines : LineUnit
  notice : NoticeUnit
  writer : Writer
  loader : Loader
  deriving DecidableEq, Repr

/-- Why the part stops. No command of the table stops it (INVENTORY.md, Faults), so no meaning answers this. -/
inductive Fault where
  /-- raised by nobody: the 19 address lines reach no address outside SRAM; a stop would be safe -/
  | noSuchAddress
  deriving DecidableEq, Repr

/-- Why a command has no meaning. -/
inductive Refusal where
  /-- raised by an arm of exec whose command has no meaning yet; none is left; a refusal is safe -/
  | notModelled (mnemonic : String)
  deriving DecidableEq, Repr

/-! ### Full-reset values -/

/-- Wait counts 0 (R98). -/
def Waits.reset : Waits := ⟨0, 0, 0, 0⟩

/-- The Access Path after a full reset (R98). -/
def Bus.reset : Bus :=
  { device := .loading, storing := false, generation := 0, faultCode := 0, faultItem := 0, refusals := 0, record := none,
    reloadRefusals := 0, reloadRecord := none, access := none, waits := Waits.reset, readData := 0 }

/-- The Time Unit after a full reset (R21). -/
def TimeUnit.reset : TimeUnit :=
  { now := 0, advance := 0, frac := 0, corr := 0, integ := 0, saturated := false, state := .free, lockRun := 0, lastOffset := 0,
    accepted := 0, foreign := 0, malformed := 0, holdover := none, nextCycle := none, lastCycle := none,
    schedStart := none, cycleNumber := 0, capture := none }

/-- The Tracking Unit after a full reset (R42). -/
def TrackUnit.reset : TrackUnit :=
  { pairA := false, pairB := false, acc := 0, excursion := false, running := false, lastPitch := none, stopAt := none,
    runPitches := 0, period := none, intervals := 0, ring := [], nextSeq := 0, queues := Vector.replicate 8 [],
    markLatch := 0, edgeNoted := false, encoderErrors := 0, reverseLimits := 0, overspeeds := 0, fillDuplicates := 0,
    fillLates := 0, misdirecteds := 0, unannounceds := 0, fillUnknowns := 0, fillMissings := 0, forceds := 0 }

/-- A camera after a full reset (R58). -/
def Camera.reset : Camera :=
  { triggers := 0, pending := [], pulseEnd := none, readyAt := none, latency := 0, duplicates := 0, lates := 0,
    unmatcheds := 0, malformeds := 0, missings := 0 }

/-- The Reject Unit after a full reset (R82). -/
def RejectUnit.reset : RejectUnit :=
  { policy := .normal, list := [], pulseEnd := none, exitQueue := [], writeIx := 0, readIx := 0, shownIx := 0,
    dropped := 0, decided := 0, rejected := 0, bypassed := 0, fired := 0, late := 0, onPitch := 0, missed := 0,
    confirmed := 0, unconfirmed := 0, unknown := 0, stray := 0 }

/-- An input bank without an image (R138). -/
def InMeta.reset : InMeta := ⟨0, 0, false, false, false⟩

/-- A robot after a full reset (R113, R120, R138). -/
def Robot.reset : Robot :=
  { out := #v[.host, .free, .free], masks := #v[0, 0, 0], pendingMask := none, stale := 0, superseded := 0,
    overruns := 0, clamps := 0, firstClamped := 0xFFFF, badEntries := 0, handovers := 0, checks := 0, recipeDrops := 0,
    result := .ignored, maskByte := 0, context := .offline, safePending := false, inp := #v[.hostIn, .free, .free],
    infos := Vector.replicate 3 InMeta.reset, answerState := .none, lastCycleSent := none, lastSend := none,
    reported := .none, missedRun := 0, missedTotal := 0, expiries := 0, txDropped := 0, staleAnswers := 0,
    dupAnswers := 0, inputLost := 0, deposited := 0, badAnswers := 0, latency := 0, ctxChanges := 0, answer := none }

/-- The check engine after a full reset (R120). -/
def Engine.reset : Engine := ⟨[], none⟩

/-- The field port after a full reset (R138). -/
def FieldPort.reset : FieldPort := ⟨[], none, [], none, [], 0⟩

/-- The Grant Unit after a full reset (R151). -/
def GrantUnit.reset : GrantUnit :=
  { settledA := false, settledB := false, candA := false, candB := false, debounceEnd := none, isOpen := false,
    requested := .none, granted := .none, duration := 0, openTime := 0, openQuality := .free, expiry := none,
    blinkStart := none, lamp := .off, opened := 0, keyActions := 0, expiries := 0, refused := 0, keyInvalids := 0 }

/-- A port record after a full reset (R165). Of the time of last change R165 gives the time, 0, and not the quality that
R153 keeps beside it: FREE (DESIGN CHOICE, log 64). -/
def Port.reset : Port :=
  { role := .spare, desired := false, known := .unknown, link := .unknown, quarantined := false, hostDisabled := false,
    flaps := 0, flapEnd := none, overrides := 0, admitted := 0, misplaced := 0, failed := 0, changed := 0,
    changedQuality := .free }

/-- The Switch Supervisor after a full reset (R165). -/
def SwitchUnit.reset : SwitchUnit :=
  { ports := Vector.replicate 16 Port.reset, queue := [], outstanding := none, nextSeq := 0, untagged := 0,
    badPort := 0, foreignType := 0, blocked := 0, inactive := 0, lineErrors := 0, strays := 0, sent := 0,
    failures := 0, lastPort := 0, lastMessage := [] }

/-- A RELEASED line, its pin at the level the cabinet gives it (R174). -/
def Line.released (pin : Bool) : Line :=
  { pin := pin, record := none, deferred := none, accepted := false, candidate := false, debounceEnd := none }

/-- The Line Unit after a full reset with the pins at given levels (R174). -/
def LineUnit.reset (pins : Vector Bool 16) : LineUnit :=
  { line := Vector.ofFn fun i => Line.released pins[i], cyclePulseEnd := none, toggleAt := none, lampLevel := false, held := 0 }

/-- The Notice Unit after a full reset (R182). -/
def NoticeUnit.reset : NoticeUnit :=
  { flags := 0, enables := 0, globalEnable := false, writeIx := 0, readIx := 0, shownIx := 0, lost := 0,
    status := Vector.replicate 26 0 }

/-- The mirror and ring writer after a full reset (R98). -/
def Writer.reset : Writer := ⟨[], none⟩

/-- The Settings Loader after a full reset (R185). -/
def Loader.reset : Loader := ⟨[], false, false, false, false, none⟩

/-- The machine right after reset (R185 and the reset rule of each chapter). Memories list nothing and pins are low
(log 5, log 6, log 7). -/
def State.reset : State :=
  { pending := [], free := 0, sram := [], settingsMem := [], cfg := none, bus := Bus.reset, time := TimeUnit.reset,
    track := TrackUnit.reset, cameras := Vector.replicate 4 Camera.reset, reject := RejectUnit.reset,
    robots := Vector.replicate 8 Robot.reset, engine := Engine.reset, field := FieldPort.reset,
    grant := GrantUnit.reset, switch := SwitchUnit.reset, lines := LineUnit.reset (Vector.replicate 16 false),
    notice := NoticeUnit.reset, writer := Writer.reset, loader := Loader.reset }

end Sys2Proof.Machine
end

