-- ==== Sys2Proof/Machine/Operands.lean ====
section
/-! DEFINITION. The forms of the operands: saturating counts, levels and their order, times and deadlines, words and
bytes of wider values, byte lanes, codes of 13.1, and updates of one entry of a fixed table. -/

namespace Sys2Proof.Machine

open Sys2Proof

/-! ### Counts (00_scope.md, Conventions: counts saturate) -/

/-- A 16-bit count increased by one, held at 65,535. -/
def satInc (w : Word) : Word := if w = 0xFFFF then w else w + 1

/-- A 16-bit count increased by `n`, held at 65,535. -/
def satAdd (w : Word) (n : Nat) : Word := BitVec.ofNat 16 (min (w.toNat + n) 65535)

/-- An 8-bit count increased by one, held at 255. -/
def satInc8 (b : Byte) : Byte := if b = 0xFF then b else b + 1

/-- A natural number shown in a word, held at 65,535. -/
def satWord (n : Nat) : Word := BitVec.ofNat 16 (min n 65535)

/-- A whole number shown in a word, held between 0 and 65,535. -/
def satWordInt (i : Int) : Word := satWord i.toNat

/-- A value clamped into a range (00_scope.md, Arithmetic). -/
def clampInt (lo hi x : Int) : Int := if x < lo then lo else if hi < x then hi else x

/-! ### Levels (R89: NONE < VIEW < ADJUST < MAINTAIN) -/

/-- The code of a level (13.1). -/
def levelCode : Level → Nat
  | .none => 0
  | .view => 1
  | .adjust => 2
  | .maintain => 3

/-- One level is at least another. -/
def atLeast (l m : Level) : Bool := decide (levelCode m ≤ levelCode l)

/-- The lower of two levels. -/
def minLevel (l m : Level) : Level := if levelCode l ≤ levelCode m then l else m

/-- The level of a code below 4. -/
def levelOf (n : Nat) : Level :=
  match n with
  | 0 => .none
  | 1 => .view
  | 2 => .adjust
  | _ => .maintain

/-! ### Times (R1: modulo 2^64; log 4) -/

/-- A span of `n` nanoseconds. -/
def ns (n : Nat) : Time := BitVec.ofNat 64 n

/-- Local time has reached a deadline: the time from the deadline to now is not negative (R9: a step keeps it). -/
def reached (deadline now : Time) : Bool := !(now - deadline).msb

/-- One time lies before another, on the same reading. -/
def before (a b : Time) : Bool := (a - b).msb

/-- An optional deadline has been reached. -/
def due (deadline : Option Time) (now : Time) : Bool :=
  match deadline with
  | some d => reached d now
  | none => false

/-- An optional deadline shifted by a step of `o`: less `o` (R9). -/
def shiftOpt (o : BitVec 64) (t : Option Time) : Option Time := t.map (· - o)

/-- The signed span from one time to another. -/
def span (fromT toT : Time) : Int := (toT - fromT).toInt

/-! ### Words and bytes of wider values -/

/-- The two words of a 32-bit value, least significant first (R190). -/
def words32 (v : BitVec 32) : List Word := [v.setWidth 16, (v >>> 16).setWidth 16]

/-- The four words of a time, least significant first (R190). -/
def words64 (v : BitVec 64) : List Word :=
  [v.setWidth 16, (v >>> 16).setWidth 16, (v >>> 32).setWidth 16, (v >>> 48).setWidth 16]

/-- The low word of a sequence number. -/
def lowWord (q : Seq) : Word := q.setWidth 16

/-- The high word of a sequence number. -/
def highWord (q : Seq) : Word := (q >>> 16).setWidth 16

/-- A signed value held into 32 bits, the nearer limit beyond them (R8, R20). -/
def signed32 (i : Int) : BitVec 32 := BitVec.ofInt 32 (clampInt (-2147483648) 2147483647 i)

/-- The low and high byte of a word. -/
def loByte (w : Word) : Byte := w.setWidth 8
def hiByte (w : Word) : Byte := (w >>> 8).setWidth 8

/-- A word from its high and low byte. -/
def wordOf (hi lo : Byte) : Word := hi ++ lo

/-- The bytes of a word, a 32-bit value and a time, most significant first (13.6). -/
def bytes16 (w : Word) : List Byte := [hiByte w, loByte w]
def bytes32 (v : BitVec 32) : List Byte := bytes16 ((v >>> 16).setWidth 16) ++ bytes16 (v.setWidth 16)
def bytes64 (v : BitVec 64) : List Byte := bytes32 ((v >>> 32).setWidth 32) ++ bytes32 (v.setWidth 32)

/-- Byte `n` of a frame; bytes a frame does not have read as the zero padding of R191 (log 15). -/
def byteAt (bs : List Byte) (n : Nat) : Byte := bs.getD n 0

/-- The 16-, 32- and 64-bit values at byte `n` of a frame, most significant byte first (13.6). -/
def be16 (bs : List Byte) (n : Nat) : Word := byteAt bs n ++ byteAt bs (n + 1)
def be32 (bs : List Byte) (n : Nat) : BitVec 32 := be16 bs n ++ be16 bs (n + 2)
def be64 (bs : List Byte) (n : Nat) : BitVec 64 := be32 bs n ++ be32 bs (n + 4)

/-- A field of `n` at bit `k` of a word. -/
def fieldAt (k n : Nat) : Word := BitVec.ofNat 16 (n * 2 ^ k)

/-- A flag at bit `k` of a word. -/
def flagAt (k : Nat) (b : Bool) : Word := if b then BitVec.ofNat 16 (2 ^ k) else 0

/-! ### Byte lanes (R90, R93) -/

/-- The bits of a word that a write carries. -/
def laneMask : Lanes → Word
  | .upper => 0xFF00
  | .lower => 0x00FF
  | .both => 0xFFFF

/-- A word after a write with given lanes: the lanes carried are new, the others old. -/
def mergeLanes (l : Lanes) (old new : Word) : Word := (new &&& laneMask l) ||| (old &&& ~~~ laneMask l)

/-- The lanes as the refusal record shows them: UPPER in bit 1, LOWER in bit 0 (13.2). -/
def lanesCode : Lanes → Nat
  | .upper => 2
  | .lower => 1
  | .both => 3

/-! ### Codes (13.1, R93, R175, 11.3) -/

def timeStateCode : TimeState → Nat
  | .free => 0
  | .locking => 1
  | .locked => 2
  | .holdover => 3

def deviceCode : DeviceState → Nat
  | .loading => 0
  | .configFault => 1
  | .active => 2
  | .reloading => 3

def causeCode : Cause → Nat
  | .fixed => 1
  | .grantLevel => 2
  | .lineRunning => 3
  | .partialLanes => 4
  | .unassigned => 5
  | .loading => 6

def policyCode : Policy → Nat
  | .normal => 0
  | .rejectAll => 1
  | .bypass => 2

def outRoleCode : OutRole → Nat
  | .free => 0
  | .host => 1
  | .check => 2
  | .ready => 3
  | .link => 4

def inRoleCode : InRole → Nat
  | .free => 0
  | .hostIn => 1
  | .fresh => 2
  | .filling => 3

def contextCode : Context → Nat
  | .offline => 0
  | .starting => 1
  | .running => 2
  | .safe => 3
  | .lost => 4

def answerCode : AnswerState → Nat
  | .none => 0
  | .due => 1
  | .started => 2
  | .answered => 3
  | .failed => 4

def reportedCode : Reported → Nat
  | .none => 0
  | .ready => 1
  | .fault => 2

def lampCode : Lamp → Nat
  | .off => 0
  | .on => 1
  | .blinking => 2

def knownCode : Known → Nat
  | .unknown => 0
  | .disabled => 1
  | .enabled => 2

def linkCode : Link → Nat
  | .unknown => 0
  | .down => 1
  | .up => 2

def actionCode : CmdAction → Nat
  | .enable => 1
  | .disable => 2
  | .ask => 3

def resultCode : ReqResult → Nat
  | .ignored => 0
  | .taken => 1
  | .pended => 2
  | .overrun => 3
  | .noFresh => 4

def roleCode : Role → Nat
  | .robot r => r.val
  | .camera c => 8 + c.val
  | .hall => 12
  | .service => 13
  | .spare => 14

def lineFnCode : LineFn → Nat
  | .none => 0
  | .encoderA => 1
  | .encoderB => 2
  | .presence => 3
  | .ejectConfirm => 4
  | .keyA => 5
  | .keyB => 6
  | .generalIn => 7
  | .trigger c => 8 + c.val
  | .ejector => 12
  | .grantLamp => 13
  | .cyclePulse => 14
  | .runOut => 15
  | .generalOut => 16

def slotCode : SlotState → Nat
  | .notSelected => 0
  | .waiting => 0
  | .pass => 1
  | .fail => 2
  | .unsure => 3
  | .missing => 4

def eventCode : EventKind → Nat
  | .timeStep => 1
  | .timeState => 2
  | .cycleSlip => 3
  | .encoderError => 4
  | .reverseLimit => 5
  | .lineState => 6
  | .lineReset => 7
  | .requestIgnored => 8
  | .cameraFault => 9
  | .policyChange => 10
  | .ejectFault => 11
  | .limitEntryBad => 12
  | .robotState => 13
  | .txDropped => 14
  | .robotReport => 15
  | .grantChange => 16
  | .keyInvalid => 17
  | .portLink => 18
  | .portCommandFailed => 19
  | .portOverridden => 20
  | .portQuarantined => 21
  | .frameMisplaced => 22
  | .configRejected => 23
  | .storeFailed => 24
  | .recipeDropped => 25

/-! ### Reasons of an ignored request (R176) -/

def reasonTooLate : Word := 1
def reasonUnknown : Word := 2
def reasonEmpty : Word := 3
def reasonGrantLevel : Word := 4
def reasonBadValue : Word := 5
def reasonOutOfSpan : Word := 6
def reasonNotConfigured : Word := 7
def reasonKeyPosition : Word := 8
def reasonLineRunning : Word := 9
def reasonStoring : Word := 10

/-! ### Fixed tables -/

/-- A table with entry `i` changed by `f`. -/
def modAt {α : Type} {n : Nat} (v : Vector α n) (i : Fin n) (f : α → α) : Vector α n := v.set i (f v[i])

/-- A table with every entry changed by `f`. -/
def mapAll {α β : Type} {n : Nat} (f : α → β) (v : Vector α n) : Vector β n := Vector.ofFn fun i => f v[i]

/-- The first `n` words of a list, filled with 0 to length `n` (R131). -/
def padWords (n : Nat) (ws : List Word) : List Word := ws.take n ++ List.replicate (n - ws.length) 0

/-- The numbers of robots, cameras, banks, ports and lines, in rising order. -/
def allRobots : List (Fin 8) := [0, 1, 2, 3, 4, 5, 6, 7]
def allCameras : List (Fin 4) := [0, 1, 2, 3]
def allBanks : List (Fin 3) := [0, 1, 2]
def allPorts : List (Fin 16) := [0, 1, 2, 3, 4, 5, 6, 7, 8, 9, 10, 11, 12, 13, 14, 15]
def allLines : List (Fin 16) := allPorts
def allRequests : List (Fin 26) :=
  [0, 1, 2, 3, 4, 5, 6, 7, 8, 9, 10, 11, 12, 13, 14, 15, 16, 17, 18, 19, 20, 21, 22, 23, 24, 25]

end Sys2Proof.Machine
end

