-- ==== Sys2Proof/Machine/ConfigImage.lean ====
section
/-! DEFINITION. The configuration image (R183, R184; 13.5): where its sections lie, what settings it gives, and the ten
checks. The choices the manual leaves are in log 17. -/

namespace Sys2Proof.Machine

open Sys2Proof

/-! ### Words of an image -/

/-- Word `i` of an image as a number, 0 beyond its end. -/
def wordAt (ws : List Word) (i : Nat) : Nat := (ws.getD i 0).toNat

/-- The two-word value at word `i`, least significant word first (13.5). -/
def pairAt (ws : List Word) (i : Nat) : Nat := wordAt ws i + 65536 * wordAt ws (i + 1)

/-- The offset and the length of section `k` in the order of R183. -/
def secOff (ws : List Word) (k : Nat) : Nat := wordAt ws (3 + 2 * k)
def secLen (ws : List Word) (k : Nat) : Nat := wordAt ws (4 + 2 * k)

/-- Word `i` and two-word value `i` of section `k`. -/
def secWord (ws : List Word) (k i : Nat) : Nat := wordAt ws (secOff ws k + i)
def secPair (ws : List Word) (k i : Nat) : Nat := pairAt ws (secOff ws k + i)

/-- The sections, numbered in the order of R183. -/
def secRegions : Nat := 0
def secPage : Nat := 1
def secTime : Nat := 2
def secTrack : Nat := 3
def secRota : Nat := 4
def secRobots : Nat := 5
def secCameras : Nat := 6
def secEject : Nat := 7
def secPorts : Nat := 8
def secLines : Nat := 9
def secSafe : Nat := 10
def secLimits : Nat := 11

/-- Bit `n` of a number is set. -/
def bitSet (m n : Nat) : Bool := m / 2 ^ n % 2 == 1

/-- How many of the bits below `n` are set. -/
def bitsBelow (m n : Nat) : Nat := ((List.range n).filter fun i => bitSet m i).length

/-! ### Settings as the image gives them -/

/-- Robot `r` and camera `c` are configured. -/
def hasRobot (ws : List Word) (r : Nat) : Bool := bitSet (secWord ws secRobots 0) r
def hasCamera (ws : List Word) (c : Nat) : Bool := bitSet (secWord ws secCameras 0) c

/-- Word `i` of robot `r`'s settings, and of camera `c`'s. -/
def robotWord (ws : List Word) (r i : Nat) : Nat :=
  secWord ws secRobots (1 + 9 * bitsBelow (secWord ws secRobots 0) r + i)
def cameraWord (ws : List Word) (c i : Nat) : Nat :=
  secWord ws secCameras (1 + 6 * bitsBelow (secWord ws secCameras 0) c + i)

/-- The configured robots and cameras, in rising order. -/
def robotsOf (ws : List Word) : List (Fin 8) := allRobots.filter fun r => hasRobot ws r.val
def camerasOf (ws : List Word) : List (Fin 4) := allCameras.filter fun c => hasCamera ws c.val

/-- The settings of a robot (13.5). -/
def robotOf (ws : List Word) (r : Nat) : RobotCfg :=
  { nOut := robotWord ws r 0, motion := robotWord ws r 1, nIn := robotWord ws r 2, applyUs := robotWord ws r 3,
    sampleUs := robotWord ws r 4, missedLimit := robotWord ws r 5, watchdog := robotWord ws r 6,
    nextCycle := robotWord ws r 7 == 1, station := robotWord ws r 8 }

/-- The settings of a camera. -/
def cameraOf (ws : List Word) (c : Nat) : CameraCfg :=
  { pos := cameraWord ws c 0, exponent := cameraWord ws c 1, residue := cameraWord ws c 2,
    unsurePass := cameraWord ws c 3 == 1, defectMax := cameraWord ws c 4, pulseUs := cameraWord ws c 5 }

/-- A region kind by its code. -/
def kindOf (n : Nat) : RegionKind :=
  match n with
  | 0 => .outputWindow
  | 1 => .inputWindow
  | 2 => .outputBanks
  | 3 => .inputBanks
  | 4 => .safeImages
  | 5 => .limits
  | 6 => .outcomeRing
  | _ => .guarded

/-- The number of region entries. -/
def regionCount (ws : List Word) : Nat := secWord ws secRegions 0

/-- Region entry `i` (13.5). -/
def regionAt (ws : List Word) (i : Nat) : Region :=
  { base := 16 * secWord ws secRegions (1 + 3 * i), len := 16 * secWord ws secRegions (2 + 3 * i),
    kind := kindOf (secWord ws secRegions (3 + 3 * i) % 16),
    robot := Fin.ofNat 8 (secWord ws secRegions (3 + 3 * i) / 256),
    maintain := bitSet (secWord ws secRegions (3 + 3 * i)) 4 }

/-- The region table. -/
def regionsOf (ws : List Word) : List Region := (List.range (regionCount ws)).map (regionAt ws)

/-- The control page base. -/
def pageOf (ws : List Word) : Nat := secPair ws secPage 0

/-- The time settings. -/
def timeOf (ws : List Word) : TimeCfg :=
  { sourceId := BitVec.ofNat 16 (secWord ws secTime 0), pathDelay := secPair ws secTime 1,
    stepThreshold := secPair ws secTime 3, lockWindow := secPair ws secTime 5, holdoverS := secWord ws secTime 7,
    gp := secWord ws secTime 8, gi := secWord ws secTime 9, periodUs := secWord ws secTime 10,
    phaseUs := secWord ws secTime 11 }

/-- The tracking settings. -/
def trackOf (ws : List Word) : TrackCfg :=
  { len := secWord ws secTrack 0, pitchLen := secPair ws secTrack 1, bLeads := secWord ws secTrack 3 == 1,
    stopMs := secWord ws secTrack 4, periodMinUs := secPair ws secTrack 5, periodMaxUs := secPair ws secTrack 7,
    shift := secWord ws secTrack 9, decidePos := secWord ws secTrack 10, fillWindow := secWord ws secTrack 11 }

/-- The rota as numbers. -/
def rotaOf (ws : List Word) : List Nat := (List.range (secWord ws secRota 0)).map fun i => secWord ws secRota (1 + i)

/-- The ejector settings. -/
def ejectOf (ws : List Word) : EjectCfg :=
  { pos := secWord ws secEject 0, fraction := secWord ws secEject 1, leadUs := secWord ws secEject 2,
    pulseMs := secWord ws secEject 3, confirmMs := secWord ws secEject 4 }

/-- The role code of a port. -/
def roleWord (ws : List Word) (p : Nat) : Nat := secWord ws secPorts (4 + p)

/-- A port role by its code (13.1). -/
def roleOf (n : Nat) : Role :=
  if n < 8 then .robot (Fin.ofNat 8 n)
  else if n < 12 then .camera (Fin.ofNat 4 n)
  else if n = 12 then .hall
  else if n = 13 then .service
  else .spare

/-- The port settings. -/
def portsOf (ws : List Word) : PortCfg :=
  { tagMarker := BitVec.ofNat 16 (secWord ws secPorts 0), hallType := BitVec.ofNat 16 (secWord ws secPorts 1),
    flapS := secWord ws secPorts 2, flapLimit := secWord ws secPorts 3,
    roles := Vector.ofFn fun p => roleOf (roleWord ws p.val) }

/-- Word `i` of the record of line `l`. -/
def lineField (ws : List Word) (l i : Nat) : Nat := secWord ws secLines (5 * l + i)

/-- A line function by its code (13.4). -/
def fnOf (n : Nat) : LineFn :=
  match n with
  | 1 => .encoderA
  | 2 => .encoderB
  | 3 => .presence
  | 4 => .ejectConfirm
  | 5 => .keyA
  | 6 => .keyB
  | 7 => .generalIn
  | 8 => .trigger 0
  | 9 => .trigger 1
  | 10 => .trigger 2
  | 11 => .trigger 3
  | 12 => .ejector
  | 13 => .grantLamp
  | 14 => .cyclePulse
  | 15 => .runOut
  | 16 => .generalOut
  | _ => .none

/-- The record of a line. Polarity and drive are read as whether their word is 1, also where the function does not use the
drive and no check judged it (log 17, log 65). -/
def lineOf (ws : List Word) (l : Nat) : LineCfg :=
  { fn := fnOf (lineField ws l 0), activeLow := lineField ws l 1 == 1, openDrain := lineField ws l 2 == 1,
    debounceUs := lineField ws l 3, pulseUs := lineField ws l 4 }

/-- Where robot `r`'s safe image begins in its section: after those of the configured robots below it (R183). -/
def safeStart (ws : List Word) (r : Nat) : Nat :=
  (((robotsOf ws).filter fun k => decide (k.val < r)).map fun k => (robotOf ws k.val).motion).sum

/-- Robot `r`'s safe image, empty when it is not configured. -/
def safeOf (ws : List Word) (r : Nat) : List Word :=
  if hasRobot ws r then (ws.drop (secOff ws secSafe + safeStart ws r)).take (robotOf ws r).motion else []

/-- The settings of an image. -/
def settingsOf (ws : List Word) : Settings :=
  { generation := ws.getD 1 0, regions := regionsOf ws, page := pageOf ws, time := timeOf ws, track := trackOf ws,
    rota := (rotaOf ws).map (Fin.ofNat 8),
    robots := Vector.ofFn fun r => if hasRobot ws r.val then some (robotOf ws r.val) else none,
    cameras := Vector.ofFn fun c => if hasCamera ws c.val then some (cameraOf ws c.val) else none,
    eject := ejectOf ws, ports := portsOf ws, lines := Vector.ofFn fun l => lineOf ws l.val,
    safe := Vector.ofFn fun r => safeOf ws r.val,
    limits := (ws.drop (secOff ws secLimits)).take 1024 }

/-! ### The checks (R184): each is true when the image fails it -/

/-- Check 2. -/
def badLength (n : Nat) : Bool := decide (n < Config.headerWords) || decide (Config.maxImage < n)

/-- Check 3. -/
def badSum (ws : List Word) : Bool := ws.foldl (· + ·) 0 != 0

/-- The length that section `k` has for its contents (13.5). -/
def wantedLen (ws : List Word) (k : Nat) : Nat :=
  match k with
  | 0 => 1 + 3 * secWord ws secRegions 0
  | 1 => 2
  | 2 => 12
  | 3 => 12
  | 4 => 1 + secWord ws secRota 0
  | 5 => 1 + 9 * bitsBelow (secWord ws secRobots 0) 8
  | 6 => 1 + 6 * bitsBelow (secWord ws secCameras 0) 4
  | 7 => 5
  | 8 => 20
  | 9 => 80
  | 10 => safeStart ws 8
  | _ => 1024

/-- Two spans share a word. -/
def overlap (a la b lb : Nat) : Bool := decide (a < b + lb) && decide (b < a + la) && la != 0 && lb != 0

/-- Section `k` is at fault: partly outside the image, over the header or an earlier section, or of a wrong length (R184).
A section of no words is outside when its offset lies past the image's end, and overlaps nothing (DESIGN CHOICE, log 17). -/
def badSection (ws : List Word) (k : Nat) : Bool :=
  decide (wordAt ws 0 < secOff ws k + secLen ws k)
    || overlap (secOff ws k) (secLen ws k) 0 Config.headerWords
    || ((List.range k).any fun j => overlap (secOff ws k) (secLen ws k) (secOff ws j) (secLen ws j))
    || secLen ws k != wantedLen ws k

/-- Check 4. -/
def badDirectory (ws : List Word) : Bool := (List.range 12).any (badSection ws)

/-- Region entry `i` fails check 5: too many entries, its length, its end, its kind, or an overlap with an earlier one. Of
two regions that overlap the higher entry is the item (DESIGN CHOICE, log 17). -/
def badRegion (ws : List Word) (i : Nat) : Bool :=
  let g := regionAt ws i
  decide (32 ≤ i) || g.len == 0 || decide (65536 < g.len) || decide (Config.sramWords < g.base + g.len)
    || decide (8 ≤ secWord ws secRegions (3 + 3 * i) % 16)
    || ((List.range i).any fun j => overlap g.base g.len (regionAt ws j).base (regionAt ws j).len)

/-- The control page base itself fails check 6. -/
def badPage (ws : List Word) : Bool := pageOf ws % 4096 != 0 || decide (Config.sramWords < pageOf ws + 4096)

/-- Region entry `i` overlaps the control page. -/
def underPage (ws : List Word) (i : Nat) : Bool := overlap (pageOf ws) 4096 (regionAt ws i).base (regionAt ws i).len

/-- A number lies in a range. -/
def within (lo hi n : Nat) : Bool := decide (lo ≤ n) && decide (n ≤ hi)

/-- The ranges of the chapters (check 7). -/
def timeInRange (g : TimeCfg) : Bool :=
  within 0 1000000 g.pathDelay && within 1000 100000000 g.stepThreshold && within 100 100000 g.lockWindow
    && within 1 60 g.holdoverS && within 0 12 g.gp && within 0 12 g.gi && within 500 20000 g.periodUs
    && decide (g.phaseUs < g.periodUs)

def trackInRange (ws : List Word) : Bool :=
  let g := trackOf ws
  within 8 240 g.len && within 1024 16776960 g.pitchLen && within 0 1 (secWord ws secTrack 3)
    && within 10 10000 g.stopMs && within 1000 5000000 g.periodMinUs && within 1000 5000000 g.periodMaxUs
    && decide (g.periodMaxUs < 1000 * g.stopMs) && within 0 4 g.shift && within 1 32 g.fillWindow

def rotaInRange (ws : List Word) : Bool :=
  within 1 8 (secWord ws secRota 0) && (rotaOf ws).all fun r => decide (r < 8)

def robotInRange (ws : List Word) (r : Nat) : Bool :=
  let g := robotOf ws r
  within 16 256 g.nOut && within 16 128 g.motion && decide (g.motion ≤ g.nOut) && within 16 256 g.nIn
    && within 0 20000 g.applyUs && within 0 20000 g.sampleUs && within 1 15 g.missedLimit && within 0 255 g.watchdog
    && within 0 1 (robotWord ws r 7)

def cameraInRange (ws : List Word) (c : Nat) : Bool :=
  let g := cameraOf ws c
  within 0 3 g.exponent && decide (g.residue < 2 ^ g.exponent) && within 0 1 (cameraWord ws c 3)
    && within 0 4 g.defectMax && within 10 1000 g.pulseUs

def ejectInRange (g : EjectCfg) : Bool :=
  within 0 255 g.fraction && within 0 50000 g.leadUs && within 1 100 g.pulseMs && within 1 200 g.confirmMs

def portsInRange (ws : List Word) : Bool :=
  within 1 60 (secWord ws secPorts 2) && within 0 15 (secWord ws secPorts 3)
    && (List.range 16).all fun p => within 0 14 (roleWord ws p)

/-- A line record in range; drive, debounce and pulse width are judged only where they apply (log 17). -/
def lineInRange (ws : List Word) (l : Nat) : Bool :=
  let f := lineField ws l 0
  within 0 16 f && within 0 1 (lineField ws l 1)
    && (decide (f < 8) || within 0 1 (lineField ws l 2))
    && (decide (8 ≤ f) || f == 5 || f == 6 || within 0 10000 (lineField ws l 3))
    && (f != 14 || within 10 1000 (lineField ws l 4))

/-- The records of an outcome ring, 1/16 of its words, lie in 16 to 1,024 (04, Settings). -/
def ringInRange (g : Region) : Bool := g.kind != .outcomeRing || within 16 1024 (g.len / 16)

/-- Check 7. -/
def badRanges (ws : List Word) : Bool :=
  !(timeInRange (timeOf ws) && trackInRange ws && rotaInRange ws && decide (secWord ws secRobots 0 < 256)
    && ((robotsOf ws).all fun r => robotInRange ws r.val) && decide (secWord ws secCameras 0 < 16)
    && ((camerasOf ws).all fun c => cameraInRange ws c.val) && ejectInRange (ejectOf ws) && portsInRange ws
    && ((List.range 16).all (lineInRange ws)) && (regionsOf ws).all ringInRange)

/-- Check 8. -/
def badPositions (ws : List Word) : Bool :=
  let t := trackOf ws
  let e := (ejectOf ws).pos
  ((camerasOf ws).any fun c =>
      let p := (cameraOf ws c.val).pos
      decide (t.decidePos ≤ p) || decide (16 < t.decidePos - p))
    || ((robotsOf ws).any fun r => decide (t.decidePos < (robotOf ws r.val).station + t.fillWindow))
    || decide (e < t.decidePos + 1) || decide (t.len < e + 2)

/-- Port `p` repeats the role of a port below it: of two ports that clash the higher is the item (check 9; DESIGN CHOICE,
log 17). -/
def badPort (ws : List Word) (p : Nat) : Bool :=
  roleWord ws p != 14 && (List.range p).any fun q => roleWord ws q == roleWord ws p

/-- Line `l` is at fault for check 9: a function of a line below it repeated, so that the higher of two that clash is the
item (DESIGN CHOICE, log 17), a ninth GENERAL_OUT, or one key contact alone. -/
def badLine (ws : List Word) (l : Nat) : Bool :=
  let f := lineField ws l 0
  let carries (n : Nat) : Bool := (List.range 16).any fun k => lineField ws k 0 == n
  (f != 0 && f != 7 && f != 16 && (List.range l).any fun k => lineField ws k 0 == f)
    || (f == 16 && decide (8 ≤ ((List.range l).filter fun k => lineField ws k 0 == 16).length))
    || (f == 5 && !carries 6) || (f == 6 && !carries 5)

/-- Exactly one region of a kind, for a robot where one is given, and of a least length. -/
def oneRegion (ws : List Word) (k : RegionKind) (r : Option (Fin 8)) (least : Nat) : Bool :=
  match (regionsOf ws).filter fun g => g.kind == k && (match r with | some n => g.robot == n | none => true) with
  | [g] => decide (least ≤ g.len)
  | _ => false

/-- Some port carries a role code, and some line a function code. -/
def portCarries (ws : List Word) (n : Nat) : Bool := (List.range 16).any fun p => roleWord ws p == n
def lineCarries (ws : List Word) (n : Nat) : Bool := (List.range 16).any fun l => lineField ws l 0 == n

/-- Robot `r` is at fault for check 10. -/
def badRobot (ws : List Word) (r : Fin 8) : Bool :=
  let g := robotOf ws r.val
  if hasRobot ws r.val then
    !(portCarries ws r.val && oneRegion ws .outputWindow (some r) g.nOut && oneRegion ws .inputWindow (some r) g.nIn
      && oneRegion ws .outputBanks (some r) (3 * g.nOut) && oneRegion ws .inputBanks (some r) (3 * g.nIn))
  else portCarries ws r.val || (rotaOf ws).contains r.val

/-- Camera `c` is at fault for check 10. -/
def badCamera (ws : List Word) (c : Nat) : Bool :=
  if hasCamera ws c then !(portCarries ws (8 + c) && lineCarries ws (8 + c)) else portCarries ws (8 + c)

/-- What check 10 asks of the whole image. -/
def badWhole (ws : List Word) : Bool :=
  !(oneRegion ws .safeImages none 1024 && oneRegion ws .limits none 1024 && oneRegion ws .outcomeRing none 256
    && lineCarries ws 1 && lineCarries ws 2 && lineCarries ws 12)

/-- A fault: the code of the first check that fails and the item index. -/
structure ImageFault where
  code : Nat
  item : Nat
  deriving DecidableEq, Repr

/-- The first number below `n` at fault. -/
def firstBad (n : Nat) (p : Nat → Bool) : Option Nat := (List.range n).find? p

/-- Checks 9 and 10, in order. In check 10 robots come before cameras, and both before what it asks of the whole image,
whose item is 0 (DESIGN CHOICE, log 17). -/
def checkItems (ws : List Word) : Option ImageFault :=
  match firstBad 16 (badPort ws) with
  | some p => some ⟨9, p⟩
  | none =>
    match firstBad 16 (badLine ws) with
    | some l => some ⟨9, l⟩
    | none =>
      match allRobots.find? (badRobot ws) with
      | some r => some ⟨10, r.val⟩
      | none =>
        match firstBad 4 (badCamera ws) with
        | some c => some ⟨10, 8 + c⟩
        | none => if badWhole ws then some ⟨10, 0⟩ else none

/-- Checks 5 to 10, in order. In check 6 the page base itself, whose item is 0, comes before the regions that the page
overlaps (DESIGN CHOICE, log 17). -/
def checkContents (ws : List Word) : Option ImageFault :=
  match firstBad (regionCount ws) (badRegion ws) with
  | some i => some ⟨5, i⟩
  | none =>
    if badPage ws then some ⟨6, 0⟩
    else
      match firstBad (regionCount ws) (underPage ws) with
      | some i => some ⟨6, i⟩
      | none =>
        if badRanges ws then some ⟨7, 0⟩
        else if badPositions ws then some ⟨8, 0⟩
        else checkItems ws

/-- Checks 2 to 10 on the words read, the first of which is the length (R184). -/
def checkImage (ws : List Word) : Option ImageFault :=
  if badLength (wordAt ws 0) then some ⟨2, 0⟩
  else if badSum ws then some ⟨3, 0⟩
  else if badDirectory ws then some ⟨4, 0⟩
  else checkContents ws

end Sys2Proof.Machine
end

