-- ==== Sys2Proof/Machine/Flags.lean ====
section
/-! DEFINITION. The notice flags, the enables and the NOTICE_N output (11.2). -/

namespace Sys2Proof.Machine

open Sys2Proof

/-- Flag numbers (11.2). -/
def flagRefused : Nat := 0
def flagOverrun : Nat := 1
def flagClamped : Nat := 2
def flagRobotFault : Nat := 3
def flagConfigDone : Nat := 4
def flagInputFresh : Nat := 5
def flagOutcomeWritten : Nat := 6
def flagOutcomeDropped : Nat := 7
def flagCameraFault : Nat := 8
def flagEjectFault : Nat := 9
def flagTimeStep : Nat := 10
def flagTimeState : Nat := 11
def flagPortChange : Nat := 12
def flagGrantChange : Nat := 13
def flagLineState : Nat := 14
def flagEventDropped : Nat := 15

/-- Raising a flag: a flag already set stays set (R177). -/
def raiseFlag (n : Nat) (s : State) : State :=
  { s with notice := { s.notice with flags := s.notice.flags ||| BitVec.ofNat 16 (2 ^ n) } }

/-- The flag set after a write to the notice flag word: the 1s written, in the lanes carried, clear (R178). -/
def clearedFlags (lanes : Lanes) (data flags : Word) : Word := flags &&& ~~~ (data &&& laneMask lanes)

/-- NOTICE_N is asserted: the global enable is 1 and a set flag is enabled (R179). -/
def noticeAsserted (s : State) : Bool := s.notice.globalEnable && (s.notice.flags &&& s.notice.enables) != 0

end Sys2Proof.Machine
end

