-- ==== Sys2Proof/Machine/Ops.lean ====
section
/-! DEFINITION. The shared operations: memory, the configuration in force, levels, stamps, the event ring, the list of
write-outs, and the update of a record, a robot, a camera, a port or a line. -/

namespace Sys2Proof.Machine

open Sys2Proof

/-! ### Memory -/

/-- The byte at a byte address; an unlisted byte reads as 0 (log 5). -/
def Memory.readByte : Memory → Nat → Byte
  | [], _ => 0
  | (x, v) :: t, a => if x = a then v else Memory.readByte t a

/-- Memory with one byte written, in canonical form. -/
def Memory.writeByte : Memory → Nat → Byte → Memory
  | [], a, b => if b = 0 then [] else [(a, b)]
  | (x, v) :: t, a, b =>
    if a < x then (if b = 0 then (x, v) :: t else (a, b) :: (x, v) :: t)
    else if a = x then (if b = 0 then t else (a, b) :: t)
    else (x, v) :: Memory.writeByte t a b

/-- The canonical form: addresses strictly rising and no byte 0. -/
def Memory.wf : Memory → Bool
  | [] => true
  | (x, v) :: t => v != 0 && (match t with | [] => true | (y, _) :: _ => decide (x < y)) && Memory.wf t

/-- The word at a word address. -/
def Memory.readWord (m : Memory) (a : Nat) : Word := wordOf (m.readByte (2 * a + 1)) (m.readByte (2 * a))

/-- Memory with a word written in the lanes given; the other lane keeps its byte. -/
def Memory.writeLanes (m : Memory) (a : Nat) (l : Lanes) (w : Word) : Memory :=
  match l with
  | .lower => m.writeByte (2 * a) (loByte w)
  | .upper => m.writeByte (2 * a + 1) (hiByte w)
  | .both => (m.writeByte (2 * a) (loByte w)).writeByte (2 * a + 1) (hiByte w)

/-- Memory with a whole word written. -/
def Memory.writeWord (m : Memory) (a : Nat) (w : Word) : Memory := m.writeLanes a .both w

/-- Memory with a list of words written at consecutive addresses. -/
def Memory.writeWords (m : Memory) (a : Nat) : List Word → Memory
  | [] => m
  | w :: ws => Memory.writeWords (m.writeWord a w) (a + 1) ws

/-- Words at consecutive addresses. -/
def Memory.readWords (m : Memory) (a : Nat) : Nat → List Word
  | 0 => []
  | n + 1 => m.readWord a :: Memory.readWords m (a + 1) n

/-- SRAM with a whole word written. -/
def writeSram (a : Nat) (w : Word) (s : State) : State := { s with sram := s.sram.writeWord a w }

/-! ### The configuration in force -/

/-- The control page base in force; the default base when no configuration is in force (R97, R186; log 18). -/
def pageBase (s : State) : Nat := match s.cfg with | some c => c.page | none => Config.defaultPage

/-- The part is ACTIVE, STORING included. -/
def isActive (s : State) : Bool := s.bus.device == .active

/-- RELOADING with a configuration in force. -/
def isReloading (s : State) : Bool := s.bus.device == .reloading && s.cfg.isSome

/-- A configuration is in force and blocks follow the outside: ACTIVE, or RELOADING entered from ACTIVE (R186). -/
def isLive (s : State) : Bool := isActive s || isReloading s

/-- The base of a robot's region of a kind, or of the one region of a kind for all robots. -/
def regionOf (c : Settings) (k : RegionKind) (r : Option (Fin 8)) : Option Region :=
  c.regions.find? fun g => g.kind == k && (match r with | some n => g.robot == n | none => true)

def regionBase (c : Settings) (k : RegionKind) (r : Option (Fin 8)) : Nat :=
  match regionOf c k r with
  | some g => g.base
  | none => 0

/-- The settings of a robot, when it is configured. -/
def robotCfg (s : State) (r : Fin 8) : Option RobotCfg := match s.cfg with | some c => c.robots[r] | none => none

/-- The settings of a camera, when it is configured. -/
def cameraCfg (s : State) (c : Fin 4) : Option CameraCfg := match s.cfg with | some g => g.cameras[c] | none => none

/-- The number of outcome records: the length of the OUTCOME_RING region divided by 16 (04, Settings). -/
def outcomeSlots (s : State) : Nat :=
  match s.cfg with
  | some c => (match regionOf c .outcomeRing none with | some g => g.len / 16 | none => 0)
  | none => 0

/-- The address of word `k` of robot `r`'s output bank `b` (R86). -/
def outBankAddr (c : Settings) (r : Fin 8) (n : Nat) (b : Fin 3) (k : Nat) : Nat :=
  regionBase c .outputBanks (some r) + b.val * n + k

/-- The address of word `k` of robot `r`'s input bank `b` (R86, R131). -/
def inBankAddr (c : Settings) (r : Fin 8) (n : Nat) (b : Fin 3) (k : Nat) : Nat :=
  regionBase c .inputBanks (some r) + b.val * n + k

/-- The address of robot `r`'s safe image (R118). -/
def safeAddr (c : Settings) (r : Fin 8) : Nat := regionBase c .safeImages none + 128 * r.val

/-- The address of word `i` of robot `r`'s 32 limit entries (06, Settings). -/
def limitAddr (c : Settings) (r : Fin 8) (i : Nat) : Nat := regionBase c .limits none + 128 * r.val + i

/-- A line that carries a function, in the configuration in force. -/
def lineWith (s : State) (f : LineFn) : Option (Fin 16) :=
  match s.cfg with
  | some c => allLines.find? fun l => c.lines[l].fn == f
  | none => none

/-! ### Levels (R144) -/

/-- The key level that the settled pair gives (R140). -/
def keyLevel (s : State) : Level :=
  match s.grant.settledA, s.grant.settledB with
  | true, false => .adjust
  | false, true => .maintain
  | _, _ => .none

/-- The settled pair is invalid: both contacts active (R140). -/
def keyInvalid (s : State) : Bool := s.grant.settledA && s.grant.settledB

/-- The line cap (R144). -/
def lineCap (s : State) : Level := if s.track.running then .adjust else .maintain

/-- The granted level, NONE while no grant is open (R144). -/
def grantedLevel (s : State) : Level := if s.grant.isOpen then s.grant.granted else .none

/-- The effective level: the lowest of the granted level, the key level and the line cap (R144). -/
def effectiveLevel (s : State) : Level := minLevel (grantedLevel s) (minLevel (keyLevel s) (lineCap s))

/-! ### Free values (log 11) -/

/-- Taking the next free value: the counter moves on. -/
def nextFree (s : State) : State := { s with free := s.free + 1 }

/-! ### The list of write-outs (R101) -/

/-- A write-out joins the end of the list. -/
def enqueue (j : Job) (s : State) : State := { s with writer := { s.writer with queue := s.writer.queue ++ [j] } }

/-- A write-out of a mirror is asked for: one already waiting is not added again (R101). -/
def ask (m : Mirror) (s : State) : State := if Job.mirror m ∈ s.writer.queue then s else enqueue (.mirror m) s

/-- A list of mirrors asked for in order. -/
def askAll (ms : List Mirror) (s : State) : State := ms.foldl (fun t m => ask m t) s

/-- The capture write-out: a waiting one takes the new latch when it begins, and one in progress starts again from the
first time word (R19). -/
def askCapture (s : State) : State :=
  match s.writer.current with
  | some w =>
    if w.job = .capture then
      { s with writer := { s.writer with current := none,
                                         queue := .capture :: s.writer.queue.filter (· ≠ .capture) } }
    else if Job.capture ∈ s.writer.queue then s else enqueue .capture s
  | none => if Job.capture ∈ s.writer.queue then s else enqueue .capture s

/-! ### The arbiter's wait counts (R99) -/

/-- Wait counts changed: the count of an agent that comes to have a word waiting starts at 0 (R99). -/
def setWaits (f : Waits → Waits) (s : State) : State := { s with bus := { s.bus with waits := f s.bus.waits } }

/-! ### The event ring (R180) -/

/-- The event ring is full (R180). -/
def eventRingFull (s : State) : Bool := (s.notice.writeIx + 1) % 64 == s.notice.readIx

/-- The 8 words of an event record (13.3). -/
def eventWords (k : EventKind) (subject : Word) (t : Time) (q : TimeState) (d1 d2 : Word) : List Word :=
  [fieldAt 0 (eventCode k) ||| fieldAt 14 (timeStateCode q), subject] ++ words64 t ++ [d1, d2]

/-- An event with a stamp of its own (R180). With no configuration in force there is no ring and the event is dropped
without a count (R182); with the ring full it is lost and counted. -/
def appendAt (k : EventKind) (subject : Word) (t : Time) (q : TimeState) (d1 d2 : Word) (s : State) : State :=
  if s.cfg.isNone then s
  else if eventRingFull s then
    raiseFlag flagEventDropped { s with notice := { s.notice with lost := satInc s.notice.lost } }
  else
    enqueue (.event s.notice.writeIx (eventWords k subject t q d1 d2) ((s.notice.writeIx + 1) % 64))
      { s with notice := { s.notice with writeIx := (s.notice.writeIx + 1) % 64 } }

/-- An event stamped with local time and the time state as they stand (R2, R180). -/
def append (k : EventKind) (subject : Word) (d1 d2 : Word) (s : State) : State :=
  appendAt k subject s.time.now s.time.state d1 d2 s

/-- A REQUEST_IGNORED event: the subject is the offset of the request word (R176). -/
def ignoreEvent (i : Fin 26) (reason second : Word) (s : State) : State :=
  append .requestIgnored (BitVec.ofNat 16 (16 + i.val)) reason second s

/-- The status that a request word shows (R175). -/
def setStatus (i : Fin 26) (w : Word) (s : State) : State :=
  { s with notice := { s.notice with status := s.notice.status.set i w } }

/-! ### Updates of one entry of a table -/

def updRobot (r : Fin 8) (f : Robot → Robot) (s : State) : State := { s with robots := modAt s.robots r f }

def updCamera (c : Fin 4) (f : Camera → Camera) (s : State) : State := { s with cameras := modAt s.cameras c f }

def updPort (p : Fin 16) (f : Port → Port) (s : State) : State :=
  { s with switch := { s.switch with ports := modAt s.switch.ports p f } }

def updLine (l : Fin 16) (f : Line → Line) (s : State) : State :=
  { s with lines := { s.lines with line := modAt s.lines.line l f } }

def updQueue (r : Fin 8) (f : List Announce → List Announce) (s : State) : State :=
  { s with track := { s.track with queues := modAt s.track.queues r f } }

/-- The record with a sequence number, in the ring or in the exit queue, changed by `f`. -/
def updRecord (q : Seq) (f : Record → Record) (s : State) : State :=
  { s with track := { s.track with ring := s.track.ring.map fun c => if c.seq = q then f c else c }
           reject := { s.reject with exitQueue := s.reject.exitQueue.map fun c => if c.seq = q then f c else c } }

/-! ### Lookup by sequence number (R32) -/

/-- The position of a sequence number in the ring: with `e` the number at the exit, L − 1 − ((q − e) mod 2^32) when
that difference is below L. -/
def positionOf (q : Seq) (s : State) : Option Nat :=
  match s.track.ring.getLast? with
  | some last =>
    if (q - last.seq).toNat < s.track.ring.length then some (s.track.ring.length - 1 - (q - last.seq).toNat) else none
  | none => none

/-- The record at a position. -/
def recordAt (p : Nat) (s : State) : Option Record := s.track.ring[p]?

/-- The decision position D in force. -/
def decidePos (s : State) : Nat := match s.cfg with | some c => c.track.decidePos | none => 0

/-- The low word of the sequence number at position 0 (R24). -/
def newestLow (s : State) : Word := match s.track.ring with | c :: _ => lowWord c.seq | [] => 0

/-! ### Robots -/

/-- The bank of a robot that holds an output role, lowest number first. -/
def outBank (b : Robot) (role : OutRole) : Option (Fin 3) := allBanks.find? fun i => b.out[i] == role

/-- The bank of a robot that holds an input role, lowest number first. -/
def inBank (b : Robot) (role : InRole) : Option (Fin 3) := allBanks.find? fun i => b.inp[i] == role

/-- A robot has a CHECK bank. -/
def checking (b : Robot) : Bool := (outBank b .check).isSome

/-- The status of a HANDOVER word (R113, R175). -/
def handoverStatus (b : Robot) : Word :=
  fieldAt 12 (resultCode b.result) ||| flagAt 11 (checking b) ||| flagAt 10 b.pendingMask.isSome
    ||| b.maskByte.setWidth 16

/-- The index of robot `r`'s HANDOVER word and of its TAKE word among the request words. -/
def handoverWord (r : Fin 8) : Fin 26 := ⟨r.val, by omega⟩
def takeWord (r : Fin 8) : Fin 26 := ⟨8 + r.val, by omega⟩

/-- The HANDOVER word's status formed again from the robot (R113). -/
def refreshHandover (r : Fin 8) (s : State) : State := setStatus (handoverWord r) (handoverStatus s.robots[r]) s

end Sys2Proof.Machine
end

