-- ==== Sys2Proof/Machine/Mirrors.lean ====
section
/-! DEFINITION. What each mirror, status record and request word shows (13.2 to 13.4, and the chapters that own the
words), and which mirrors are asked for when a command changed what they show (R101). -/

namespace Sys2Proof.Machine

open Sys2Proof

/-! ### Lines (10) -/

/-- The functions of input direction: the first eight (10, Settings). -/
def isInputFn : LineFn → Bool
  | .none | .encoderA | .encoderB | .presence | .ejectConfirm | .keyA | .keyB | .generalIn => true
  | _ => false

/-- The encoder functions, whose line words are rewritten only at a change of line state (R172), which is read as the
Tracking Unit's (DESIGN CHOICE, log 63). -/
def isEncoderFn : LineFn → Bool
  | .encoderA | .encoderB => true
  | _ => false

/-- The number of a general output: how many lines below it carry GENERAL_OUT (10, Settings). -/
def generalIndex (c : Settings) (l : Fin 16) : Nat :=
  (allLines.filter fun k => decide (k.val < l.val) && c.lines[k].fn == .generalOut).length

/-- How many general outputs a configuration has. -/
def generalCount (c : Settings) : Nat := (allLines.filter fun k => c.lines[k].fn == .generalOut).length

/-- The general outputs that are configured, output i standing for 2^i (R171). -/
def configuredOutputs (s : State) : Byte :=
  match s.cfg with
  | some c => BitVec.ofNat 8 (2 ^ (min (generalCount c) 8) - 1)
  | none => 0

/-- The level a driven line carries, as its owner last asked (R169). BLINKING reads as 2 (R172). Where a new record moves
a function to another line, the level is the owner's on both lines, so a pulse that still runs on its old line (R174)
shows on the new one too and a later one extends both (DESIGN CHOICE, log 49). A general output follows its number under
the configuration in force, so an unchanged line whose number moves takes the level held for its new number (DESIGN
CHOICE, log 48). -/
def drivenLevel (s : State) (l : Fin 16) (f : LineFn) : Nat :=
  match f with
  | .trigger c => if s.cameras[c].pulseEnd.isSome then 1 else 0
  | .ejector => if s.reject.pulseEnd.isSome then 1 else 0
  | .cyclePulse => if s.lines.cyclePulseEnd.isSome then 1 else 0
  | .grantLamp => lampCode s.grant.lamp
  | .runOut => if s.track.running then 1 else 0
  | .generalOut =>
    (match s.cfg with
     | some c => if s.lines.held.getLsbD (generalIndex c l) then 1 else 0
     | none => 0)
  | _ => 0

/-- The instantaneous level of a driven line: as `drivenLevel`, the toggled level while BLINKING (R170). A line that
becomes DRIVEN as GRANT_LAMP while BLINKING takes the phase in progress (DESIGN CHOICE, log 50). -/
def drivenActive (s : State) (l : Fin 16) (f : LineFn) : Bool :=
  match f with
  | .grantLamp =>
    (match s.grant.lamp with
     | .off => false
     | .on => true
     | .blinking => s.lines.lampLevel)
  | _ => drivenLevel s l f == 1

/-- A line's pin as the part drives it: nothing while it is not DRIVEN or OPEN_DRAIN releases it, else a level, high
when true (R167). -/
def pinDrive (s : State) (l : Fin 16) : Option Bool :=
  match s.lines.line[l].record with
  | some rec =>
    if isInputFn rec.fn then none
    else
      let high := xor (drivenActive s l rec.fn) rec.activeLow
      if rec.openDrain && high then none else some high
  | none => none

/-- The line mirror word (13.4). -/
def lineWord (s : State) (l : Fin 16) : Word :=
  match s.lines.line[l].record with
  | none => 0
  | some rec =>
    if isInputFn rec.fn then
      fieldAt 11 (lineFnCode rec.fn) ||| fieldAt 8 1 ||| flagAt 4 s.lines.line[l].debounceEnd.isSome
        ||| flagAt 0 s.lines.line[l].accepted
    else
      fieldAt 11 (lineFnCode rec.fn) ||| fieldAt 8 2 ||| fieldAt 0 (drivenLevel s l rec.fn)

/-! ### Device words (13.2) -/

/-- The device word at offset 3. -/
def deviceWord (s : State) : Word :=
  fieldAt 13 (deviceCode s.bus.device) ||| flagAt 12 s.bus.storing |||
    (if s.bus.device = .configFault then fieldAt 8 s.bus.faultCode.toNat ||| s.bus.faultItem.setWidth 16
     else s.bus.generation &&& 0x0FFF)

/-- The refusal count at offset 4 and the refusal record at offsets 8 to 15 (R92, R93). The manual does not say whether the
two are one write-out: they are one of nine words, the count first, at a rearm too (DESIGN CHOICE, log 54). -/
def refusalWords (s : State) : List (Nat × Word) :=
  (4, s.bus.refusals) ::
    (match s.bus.record with
     | none => [(8, 0), (9, 0), (10, 0), (11, 0), (12, 0), (13, 0), (14, 0), (15, 0)]
     | some r =>
       [(8, BitVec.ofNat 16 r.addr), (9, BitVec.ofNat 16 (r.addr / 65536) ||| fieldAt 14 (timeStateCode r.quality)),
        (10, r.data), (11, fieldAt 8 (causeCode r.cause) ||| fieldAt 0 (lanesCode r.lanes))]
         ++ [12, 13, 14, 15].zip (words64 r.time))

/-- The device word at offset 5: line state, policy, grant open, effective level. -/
def summaryWord (s : State) : Word :=
  flagAt 15 s.track.running ||| fieldAt 8 (policyCode s.reject.policy) ||| flagAt 4 s.grant.isOpen
    ||| fieldAt 0 (levelCode (effectiveLevel s))

/-! ### Mirrors and status records -/

/-- The time mirror (R20; 13.2). -/
def timeWords (s : State) : List Word :=
  words32 (BitVec.ofInt 32 s.time.corr) ++ words32 (BitVec.ofInt 32 s.time.integ)
    ++ words32 (signed32 s.time.lastOffset.toInt)
    ++ [fieldAt 14 (timeStateCode s.time.state) ||| flagAt 13 s.time.saturated ||| fieldAt 0 s.time.lockRun,
        s.time.accepted, s.time.foreign, s.time.malformed]

/-- The port mirror (13.4). -/
def portWords (s : State) (p : Fin 16) : List Word :=
  let r := s.switch.ports[p]
  [fieldAt 12 (roleCode r.role) ||| flagAt 11 r.desired ||| fieldAt 9 (knownCode r.known) ||| fieldAt 7 (linkCode r.link)
     ||| flagAt 6 r.quarantined ||| flagAt 5 r.hostDisabled ||| flagAt 4 (s.switch.queue.any fun c => c.port == p)
     ||| flagAt 3 (match s.switch.outstanding with | some o => o.cmd.port == p | none => false),
   wordOf (BitVec.ofNat 8 r.flaps) r.overrides, r.admitted, wordOf r.misplaced r.failed]

/-- The camera status record (R57; 13.4); a camera that is not configured shows 0. -/
def cameraWords (s : State) (c : Fin 4) : List Word :=
  match cameraCfg s c with
  | none => List.replicate 8 0
  | some _ =>
    let m := s.cameras[c]
    [flagAt 15 true ||| fieldAt 0 m.pending.length,
     wordOf m.triggers (BitVec.ofNat 8 (m.pending.filter fun e => e.state == .waiting).length),
     m.latency, m.duplicates, m.lates, m.unmatcheds, m.malformeds, m.missings]

/-- The tracking status (R41); the places of the bits of its first word are the model's (log 37). -/
def trackWords (s : State) : List Word :=
  let t := s.track
  [flagAt 15 t.running ||| flagAt 14 (t.intervals == 2) ||| fieldAt 0 t.intervals]
    ++ words32 (BitVec.ofNat 32 ((t.period.getD 0) / 1000))
    ++ words32 (match t.ring with | c :: _ => c.seq | [] => 0)
    ++ [if t.running then t.runPitches else 0, t.encoderErrors, t.reverseLimits, t.overspeeds, t.fillDuplicates,
        t.fillLates, t.misdirecteds, t.unannounceds, t.fillUnknowns, t.fillMissings, t.forceds]

/-- The grant record (R150; 13.4). -/
def grantWords (s : State) : List Word :=
  let g := s.grant
  [flagAt 15 g.isOpen ||| fieldAt 12 (lampCode g.lamp) ||| fieldAt 8 (levelCode (keyLevel s)) ||| flagAt 7 (keyInvalid s)
     ||| flagAt 6 g.debounceEnd.isSome ||| fieldAt 0 (timeStateCode g.openQuality),
   fieldAt 12 (levelCode g.requested) ||| fieldAt 8 (levelCode (grantedLevel s))
     ||| fieldAt 4 (levelCode (effectiveLevel s)) ||| fieldAt 0 (levelCode (lineCap s)),
   g.duration.setWidth 16]
    ++ words64 g.openTime ++ words64 (g.expiry.getD 0)
    ++ [g.opened, g.keyActions, g.expiries, g.refused, g.keyInvalids]

/-- The reject status from offset 209 on (R81). -/
def rejectWords (s : State) : List Word :=
  let j := s.reject
  [BitVec.ofNat 16 j.readIx, j.dropped, j.decided, j.rejected, j.bypassed, j.fired, j.late, j.onPitch, j.missed,
   j.confirmed, j.unconfirmed, j.unknown, j.stray,
   wordOf (BitVec.ofNat 8 j.list.length) (BitVec.ofNat 8 j.exitQueue.length)]

/-- The switch status (R164; 13.4). R164 and 13.4 give the port and action bits of offset 249 no value while no command is
outstanding: the whole word then shows 0 (DESIGN CHOICE, log 61). -/
def switchWords (s : State) : List Word :=
  let w := s.switch
  [w.untagged, w.badPort, w.foreignType, w.blocked, w.inactive, w.lineErrors, w.strays, w.sent, w.failures,
   (match w.outstanding with
    | some o => flagAt 15 true ||| fieldAt 8 o.cmd.port.val ||| fieldAt 0 (actionCode o.cmd.action)
    | none => 0),
   wordOf w.nextSeq (BitVec.ofNat 8 w.queue.length), BitVec.ofNat 16 w.lastPort.val]
    ++ words64 w.ports[w.lastPort].changed

/-- The mask of the bank that holds a role, empty where none does (R119). -/
def maskOf (b : Robot) (role : OutRole) : Nat :=
  match outBank b role with
  | some i => b.masks[i].toNat
  | none => 0

/-- The robot status record (R119, R137; 13.3). Word 13 shows 0 before any frame is sent, and the low bits of word 29 show 0
with no FRESH bank, where R137 gives no value (DESIGN CHOICE, log 55). -/
def robotWords (s : State) (r : Fin 8) : List Word :=
  match robotCfg s r with
  | none => [0, fieldAt 0 (outRoleCode .host)] ++ List.replicate 30 0
  | some _ =>
    let b := s.robots[r]
    let hostIn := match inBank b .hostIn with | some i => b.infos[i] | none => InMeta.reset
    let fresh := inBank b .fresh
    [fieldAt 13 (contextCode b.context) ||| flagAt 12 (checking b) ||| flagAt 11 b.pendingMask.isSome,
     fieldAt 0 (outRoleCode b.out[0]) ||| fieldAt 4 (outRoleCode b.out[1]) ||| fieldAt 8 (outRoleCode b.out[2]),
     fieldAt 0 (maskOf b .check) ||| fieldAt 2 (maskOf b .ready) ||| fieldAt 4 (maskOf b .link)
       ||| fieldAt 6 (match b.pendingMask with | some m => m.toNat | none => 0),
     b.stale, b.superseded, b.overruns, b.clamps, b.firstClamped, b.badEntries, b.handovers, b.checks, b.recipeDrops,
     fieldAt 0 (inRoleCode b.inp[0]) ||| fieldAt 2 (inRoleCode b.inp[1]) ||| fieldAt 4 (inRoleCode b.inp[2])
       ||| fieldAt 8 (answerCode b.answerState) ||| flagAt 15 b.safePending,
     b.lastCycleSent.getD 0, b.missedRun, b.missedTotal, b.expiries, b.txDropped, b.staleAnswers, b.dupAnswers,
     b.inputLost, b.deposited, fieldAt 8 (reportedCode b.reported) ||| b.badAnswers.setWidth 16, hostIn.cycle]
      ++ words64 hostIn.sample
      ++ [flagAt 0 hostIn.short ||| flagAt 1 hostIn.long ||| flagAt 2 hostIn.deposited,
          flagAt 15 fresh.isSome ||| flagAt 14 b.lastCycleSent.isSome
            ||| ((match fresh with | some i => b.infos[i].cycle | none => 0) &&& 0x0FFF),
          b.latency, b.ctxChanges]

/-- Words at consecutive offsets. -/
def atOffsets (o : Nat) (ws : List Word) : List (Nat × Word) := (List.range ws.length).map (o + ·) |>.zip ws

/-- The words a mirror shows, with their control page offsets, in word order (13.2). That the event read index and the
lost-event count, offsets 225 and 226, are one write-out, 225 first, is the model's choice (DESIGN CHOICE, log 57: R180 is
silent). -/
def mirrorWords (m : Mirror) (s : State) : List (Nat × Word) :=
  match m with
  | .flags => [(0, s.notice.flags)]
  | .enables => [(1, s.notice.enables)]
  | .globalEnable => [(2, flagAt 0 s.notice.globalEnable)]
  | .outcomeIndex => [(208, BitVec.ofNat 16 s.reject.shownIx)]
  | .eventIndex => [(224, BitVec.ofNat 16 s.notice.shownIx)]
  | .device => [(3, deviceWord s)]
  | .refusal => refusalWords s
  | .summary => [(5, summaryWord s)]
  | .request i => [(16 + i.val, s.notice.status[i])]
  | .time => atOffsets 48 (timeWords s)
  | .port p => atOffsets (64 + 4 * p.val) (portWords s p)
  | .camera c => atOffsets (128 + 8 * c.val) (cameraWords s c)
  | .line l => [(160 + l.val, lineWord s l)]
  | .tracking => atOffsets 176 (trackWords s)
  | .grant => atOffsets 192 (grantWords s)
  | .reject => atOffsets 209 (rejectWords s)
  | .events => [(225, BitVec.ofNat 16 s.notice.readIx), (226, s.notice.lost)]
  | .switch => atOffsets 240 (switchWords s)
  | .robot r => atOffsets (768 + 32 * r.val) (robotWords s r)

/-- The capture words (R19): the time, the state, and last the sequence word. R175 speaks of a pending write-out that
rewrites the TIME_CAPTURE word at offset 41 (R22), which is none of R19's words; the model follows R19 and writes 41 by no
write-out (DESIGN CHOICE, log 58). -/
def captureWords (s : State) : List (Nat × Word) :=
  match s.time.capture with
  | some c =>
    atOffsets 58 (words64 c.time) ++ [(62, fieldAt 0 (timeStateCode c.state)), (63, c.seq.setWidth 16)]
  | none => []

/-! ### When a mirror is rewritten -/

/-- The mirrors that follow what they show, in the order they are asked for (log 10). -/
def changeMirrors : List Mirror :=
  [.flags, .device, .refusal, .summary, .time] ++ allPorts.map .port ++ allCameras.map .camera ++ allLines.map .line
    ++ [.tracking, .grant, .reject, .events, .switch] ++ allRobots.map .robot

/-- Every word written at an entry to ACTIVE from LOADING or through an accepted RELOAD: the enables, the write indices,
the mirrors, and every request word but TIME_CAPTURE (R175, R182, R185, R188). -/
def entryMirrors : List Mirror :=
  [.enables, .globalEnable, .outcomeIndex, .eventIndex] ++ changeMirrors
    ++ (allRequests.filter fun i => decide (i.val < 25)).map .request

/-- A rewrite is made: in ACTIVE; the device word also in CONFIG_FAULT and RELOADING, the refusals, the event indices
and the HANDOVER words in a RELOADING with a page in force (R95, R182, R186, R187; log 26). -/
def rewritable (m : Mirror) (s : State) : Bool :=
  match m with
  | .device => s.bus.device != .loading
  | .refusal | .events | .request _ => isLive s
  | _ => isActive s

/-- A mirror that a rule rewrites, its words changed or not, is asked for where the rewrite is made (log 10). -/
def rewriteMirror (m : Mirror) (s : State) : State := if rewritable m s then ask m s else s

/-- A list of mirrors rewritten in order. -/
def rewriteAll (ms : List Mirror) (s : State) : State := ms.foldl (fun t m => rewriteMirror m t) s

/-- The words whose change asks for a mirror: a line word without its debounce bit, whose change asks for nothing (R172),
and every other mirror's words whole. -/
def askingWords (m : Mirror) (s : State) : List (Nat × Word) :=
  match m with
  | .line l => [(160 + l.val, lineWord s l &&& 0xFFEF)]
  | _ => mirrorWords m s

/-- A line word of an encoder line is left out unless the line state changed (R172). The line state is read as RUNNING and
STOPPED, as R169 uses the word, and not as RELEASED, SAMPLED and DRIVEN, which the chapter's table calls so too: an encoder
line that becomes SAMPLED in ACTIVE by a record that waited has no rewrite then (DESIGN CHOICE, log 63). -/
def skipsMirror (old new : State) : Mirror → Bool
  | .line l =>
    (match new.lines.line[l].record with
     | some rec => isEncoderFn rec.fn && new.track.running == old.track.running
     | none => false)
  | _ => false

/-- The mirrors whose words a command changed, in the order they are asked for. -/
def changedMirrors (old new : State) : List Mirror :=
  changeMirrors.filter fun m =>
    rewritable m new && !skipsMirror old new m && askingWords m old != askingWords m new

/-- After a command each mirror whose words changed is asked for (R101 and the rule of each mirror; log 10). -/
def settle (old new : State) : State := askAll (changedMirrors old new) new

end Sys2Proof.Machine
end

