-- ==== Sys2Proof/Machine/Rejection.lean ====
section
/-! DEFINITION. The Reject Unit (04): decision, arming and firing, the ejector pending list, confirmation, the exit
queue and the outcome ring. -/

namespace Sys2Proof.Machine

open Sys2Proof

/-- The ejector settings in force. -/
def ejectCfg (s : State) : EjectCfg := match s.cfg with | some c => c.eject | none => ⟨0, 0, 0, 0, 0⟩

/-- The Reject Unit changed by `f`. -/
def updReject (f : RejectUnit → RejectUnit) (s : State) : State := { s with reject := f s.reject }

/-- Causes of EJECT_FAULT (R73). -/
def ejectLate : Word := 1
def ejectMissed : Word := 2
def ejectUnconfirmed : Word := 3
def ejectUnwatched : Word := 4

/-- An EJECT_FAULT: the flag and one event with the cause and the low word of the sequence number (R73). -/
def ejectFault (cause : Word) (q : Seq) (s : State) : State :=
  append .ejectFault 0 cause (lowWord q) (raiseFlag flagEjectFault s)

/-! ### Outcomes (R78, R79) -/

/-- Result and confirmation codes of an outcome (R79; 13.3). -/
def outcomeResult (c : Record) : Nat × Nat :=
  let conf := match c.confirm with | some .confirmed => 1 | some .unconfirmed => 2 | _ => 3
  match c.decision, c.ejection with
  | some d, e =>
    (match d.verdict, e with
     | .bypassed, _ => (1, 0)
     | .reject, some (.fired .fired _ _) => (2, conf)
     | .reject, some (.fired .late _ _) => (3, conf)
     | .reject, some (.fired .onPitch _ _) => (4, conf)
     | .reject, some .missed => (5, 0)
     | _, _ => (0, 0))
  | none, _ => (0, 0)

/-- A camera slot's byte of an outcome record (13.3). -/
def slotByte (x : Slot) : Byte := BitVec.ofNat 8 (slotCode x.state + (if x.truncated then 8 else 0) + (if x.short then 16 else 0))

/-- The first defect code kept, 0 when the list is empty (R79). -/
def firstDefect (x : Slot) : Word := x.defects.headD 0

/-- The 16 words of an outcome record (13.3). -/
def outcomeWords (c : Record) : List Word :=
  words32 c.seq ++ words64 c.entry
    ++ [(match c.decision with | some d => d.reasons.setWidth 16 | none => 0),
        fieldAt 12 (outcomeResult c).1 ||| fieldAt 10 (outcomeResult c).2
          ||| fieldAt 8 (match c.fill with | none => 0 | some f => if f.ok then 1 else 2)
          ||| fieldAt 0 (match c.robot with | some r => r.val | none => 0),
        (match c.fill with | some f => f.qty | none => 0),
        wordOf (slotByte c.slots[1]) (slotByte c.slots[0]), wordOf (slotByte c.slots[3]) (slotByte c.slots[2]),
        firstDefect c.slots[0], firstDefect c.slots[1], firstDefect c.slots[2], firstDefect c.slots[3],
        fieldAt 14 (timeStateCode c.quality)]

/-- The outcome ring is full (R78). -/
def outcomeRingFull (s : State) : Bool := (s.reject.writeIx + 1) % outcomeSlots s == s.reject.readIx

/-- The address of an outcome slot. -/
def outcomeAddr (s : State) (i : Nat) : Nat :=
  match s.cfg with
  | some c => regionBase c .outcomeRing none + 16 * i
  | none => 0

/-- Writing a record to the outcome ring: its slot is reserved with its contents as they stand, or the record is
dropped and counted (R78). -/
def writeOutcome (c : Record) (s : State) : State :=
  if outcomeRingFull s then
    raiseFlag flagOutcomeDropped (updReject (fun j => { j with dropped := satInc j.dropped }) s)
  else
    enqueue (.outcome (outcomeAddr s s.reject.writeIx) (outcomeWords c) ((s.reject.writeIx + 1) % outcomeSlots s))
      (updReject (fun j => { j with writeIx := (j.writeIx + 1) % outcomeSlots s }) s)

/-! ### The exit queue (R76, R77) -/

/-- A record is settled when it has no entry in the ejector pending list (R76). -/
def settled (q : Seq) (s : State) : Bool := !(s.reject.list.any fun e => e.seq == q)

/-- Each settled head is written and leaves the queue, until the queue is empty or its head is unsettled (R77). -/
def drainFrom : List Record → State → State
  | [], s => updReject (fun j => { j with exitQueue := [] }) s
  | c :: cs, s =>
    if settled c.seq s then drainFrom cs (writeOutcome c s)
    else updReject (fun j => { j with exitQueue := c :: cs }) s

/-- The exit queue drained; in RELOADING records wait there (R77). -/
def drainExit (s : State) : State := if isActive s then drainFrom s.reject.exitQueue s else s

/-- An entry of the ejector pending list is given up unjudged: its record's confirmation becomes UNKNOWN, with an
UNWATCHED fault (R70, R77). -/
def unwatch (q : Seq) (s : State) : State :=
  ejectFault ejectUnwatched q
    (updRecord q (fun c => { c with confirm := some .unknown })
      (updReject (fun j => { j with list := j.list.filter (fun e => e.seq ≠ q), unknown := satInc j.unknown }) s))

/-- A record joins the exit queue; a full queue gives up its unsettled head first (R77). -/
def joinExit (c : Record) (s : State) : State :=
  match s.reject.exitQueue with
  | h :: _ =>
    if 8 ≤ s.reject.exitQueue.length then
      let s1 := unwatch h.seq s
      drainExit (updReject (fun j => { j with exitQueue := j.exitQueue ++ [c] }) s1)
    else drainExit (updReject (fun j => { j with exitQueue := j.exitQueue ++ [c] }) s)
  | [] => drainExit (updReject (fun j => { j with exitQueue := [c] }) s)

/-! ### The ejector pending list (R68, R70) -/

/-- One entry stands before another: earlier fire time, or the older container at equal times (R68). -/
def entryBefore (e x : EjectEntry) : Bool := before e.fire x.fire || (e.fire == x.fire && (e.seq - x.seq).msb)

/-- An entry at its place in fire-time order. -/
def insertEntry (e : EjectEntry) : List EjectEntry → List EjectEntry
  | [] => [e]
  | x :: xs => if entryBefore e x then e :: x :: xs else x :: insertEntry e xs

/-- An entry takes its place in the list. -/
def placeEntry (e : EjectEntry) (s : State) : State := updReject (fun j => { j with list := insertEntry e j.list }) s

/-- An entry joins the list; a full list gives up its earliest entry first, whose record is then settled for the exit
queue (R70). -/
def joinList (e : EjectEntry) (s : State) : State :=
  match s.reject.list with
  | x :: _ => if 4 ≤ s.reject.list.length then drainExit (placeEntry e (unwatch x.seq s)) else placeEntry e s
  | [] => placeEntry e s

/-- An entry leaves the list. -/
def leaveList (q : Seq) (s : State) : State :=
  updReject (fun j => { j with list := j.list.filter (fun e => e.seq ≠ q) }) s

/-! ### Firing (R69) -/

/-- The count of a kind of firing increases (R69, step 2). -/
def countFiring (k : FireKind) (j : RejectUnit) : RejectUnit :=
  match k with
  | .fired => { j with fired := satInc j.fired }
  | .late => { j with late := satInc j.late }
  | .onPitch => { j with onPitch := satInc j.onPitch }

/-- The pulse end that a firing now gives: the moment of firing plus the pulse width (R69, step 1). -/
def newPulseEnd (s : State) : Time := s.time.now + ns ((ejectCfg s).pulseMs * Config.msNs)

/-- The confirm deadline that goes with it (R69, step 3). -/
def newConfirmDeadline (s : State) : Time := newPulseEnd s + ns ((ejectCfg s).confirmMs * Config.msNs)

/-- The pulse starts or is extended; entries fired in the same pulse take the new deadline (R69, steps 1 and 3). -/
def extendPulse (s : State) : State :=
  updReject (fun j =>
    { j with
      pulseEnd := some (newPulseEnd s)
      list := j.list.map fun e =>
        if j.pulseEnd.isSome && e.inPulse && e.deadline.isSome then { e with deadline := some (newConfirmDeadline s) }
        else e }) s

/-- The ejector is fired for a record (R69). -/
def fire (k : FireKind) (q : Seq) (s : State) : State :=
  let s1 := extendPulse s
  let s2 := updRecord q (fun c => { c with ejection := some (.fired k s.time.now s.time.state) })
    (updReject (countFiring k) s1)
  let s3 := leaveList q s2
  let s4 :=
    if (lineWith s .ejectConfirm).isSome then
      joinList { seq := q, fire := s.time.now, deadline := some (newConfirmDeadline s), inPulse := true } s3
    else updRecord q (fun c => { c with confirm := some .unknown }) s3
  match k with
  | .late => ejectFault ejectLate q s4
  | _ => s4

/-- The record is ejected no more: EJECT_MISSED with no fire time, counted and reported (R67, R74). -/
def missEjection (q : Seq) (s : State) : State :=
  ejectFault ejectMissed q
    (updRecord q (fun c => { c with ejection := some .missed })
      (updReject (fun j => { j with missed := satInc j.missed }) (leaveList q s)))

/-! ### The decision (R61, R62) -/

/-- Some slot is in a state. -/
def anySlot (c : Record) (x : SlotState) : Bool := allCameras.any fun i => c.slots[i].state == x

/-- Some slot is UNSURE under its camera's REJECT policy. -/
def unsureRejected (s : State) (c : Record) : Bool :=
  allCameras.any fun i => c.slots[i].state == .unsure &&
    (match cameraCfg s i with | some g => !g.unsurePass | none => false)

/-- One reason of the set, at bit `k`. -/
def reasonBit (k : Nat) (b : Bool) : BitVec 10 := if b then BitVec.ofNat 10 (2 ^ k) else 0

/-- The reason set of a record, in the order of R61's table. -/
def reasonSet (s : State) (c : Record) : BitVec 10 :=
  reasonBit 0 (anySlot c .fail) ||| reasonBit 1 (unsureRejected s c) ||| reasonBit 2 (anySlot c .missing)
    ||| reasonBit 3 (match c.fill with | some f => !f.ok | none => false)
    ||| reasonBit 4 c.fillMissing ||| reasonBit 5 c.fillUnknown ||| reasonBit 6 c.unannounced
    ||| reasonBit 7 c.suspect ||| reasonBit 8 c.forced ||| reasonBit 9 (s.reject.policy == .rejectAll)

/-- The verdict of a policy on a reason set (R62). -/
def verdictOf (p : Policy) (r : BitVec 10) : Verdict :=
  if r = 0 then .pass else match p with | .bypass => .bypassed | _ => .reject

/-- The counts of a decision (R62). -/
def countDecision (v : Verdict) (j : RejectUnit) : RejectUnit :=
  match v with
  | .pass => { j with decided := satInc j.decided }
  | .reject => { j with decided := satInc j.decided, rejected := satInc j.rejected }
  | .bypassed => { j with decided := satInc j.decided, bypassed := satInc j.bypassed }

/-- The decision on a non-empty record that reaches D (R61, R62). -/
def decideRecord (c : Record) (s : State) : State :=
  let r := reasonSet s c
  let v := verdictOf s.reject.policy r
  updRecord c.seq
    (fun x => { x with decision := some ⟨v, r⟩, ejection := if v = .reject then some .awaitingArm else none })
    (updReject (countDecision v) s)

/-! ### Arming (R65, R66) -/

/-- floor(f × Π / 256) − 1,000 × A in nanoseconds. -/
def fireOffset (e : EjectCfg) (period : Nat) : Int := (e.fraction * period / 256 : Nat) - 1000 * (e.leadUs : Int)

/-- A record AWAITING_ARM that reaches E − 1 at pitch time `t` (R65). -/
def armRecord (t : Time) (c : Record) (s : State) : State :=
  match s.track.period with
  | some p =>
    if s.track.intervals = 2 then
      let d : Int := p + fireOffset (ejectCfg s) p
      if Config.marginNs ≤ d then
        joinList { seq := c.seq, fire := t + BitVec.ofInt 64 d, deadline := none, inPulse := false }
          (updRecord c.seq (fun x => { x with ejection := some (.armed (t + BitVec.ofInt 64 d)) }) s)
      else fire .late c.seq s
    else updRecord c.seq (fun x => { x with ejection := some .onPitch }) s
  | none => updRecord c.seq (fun x => { x with ejection := some .onPitch }) s

/-- A record that reaches E at pitch time `t` (R66). -/
def reachEjector (t : Time) (c : Record) (s : State) : State :=
  match c.ejection with
  | some .onPitch => fire .onPitch c.seq s
  | some (.armed _) =>
    let d : Int := fireOffset (ejectCfg s) (s.track.period.getD 0)
    if Config.marginNs ≤ d then
      joinList { seq := c.seq, fire := t + BitVec.ofInt 64 d, deadline := none, inPulse := false }
        (leaveList c.seq (updRecord c.seq (fun x => { x with ejection := some (.armed (t + BitVec.ofInt 64 d)) }) s))
    else fire .late c.seq s
  | _ => s

/-- A record that moves from E to E + 1 (R67). -/
def leaveEjector (c : Record) (s : State) : State :=
  match c.ejection with
  | some (.armed _) => missEjection c.seq s
  | _ => s

/-- The record at a position, if it is there and not EMPTY, is worked on. -/
def atPosition (p : Nat) (f : Record → State → State) (s : State) : State :=
  match recordAt p s with
  | some c => if c.empty then s else f c s
  | none => s

/-- The Reject Unit's work on the ring at a pitch event, in the order of R67: the record leaving E, the one reaching
E, the one reaching D, the one reaching E − 1. -/
def rejectAtPitch (t : Time) (s : State) : State :=
  let e := (ejectCfg s).pos
  let s1 := atPosition (e + 1) leaveEjector s
  let s2 := atPosition e (reachEjector t) s1
  let s3 := atPosition (decidePos s) decideRecord s2
  atPosition (e - 1)
    (fun c x => match c.ejection with | some .awaitingArm => armRecord t c x | _ => x) s3

/-! ### Confirmation (R71, R72), line stop (R74), deadlines across a step (R75) -/

/-- An AWAITING entry fired at or before a time. -/
def firedBy (t : Time) (e : EjectEntry) : Bool := e.deadline.isSome && reached e.fire t

/-- The records of confirmed entries become CONFIRMED, one after another. -/
def confirmAll : List EjectEntry → State → State
  | [], s => s
  | e :: es, s =>
    confirmAll es
      (updRecord e.seq (fun c => { c with confirm := some .confirmed })
        (updReject (fun j => { j with confirmed := satInc j.confirmed }) (leaveList e.seq s)))

/-- A change of EJECT_CONFIRM to active (R71). -/
def confirmEdge (s : State) : State :=
  match s.reject.list.filter (firedBy s.time.now) with
  | [] => updReject (fun j => { j with stray := satInc j.stray }) s
  | es => drainExit (confirmAll es s)

/-- The earliest AWAITING entry's confirm deadline passes (R72). -/
def confirmTimeout (s : State) : State :=
  match s.reject.list.find? fun e => due e.deadline s.time.now with
  | some e =>
    drainExit
      (ejectFault ejectUnconfirmed e.seq
        (updRecord e.seq (fun c => { c with confirm := some .unconfirmed })
          (updReject (fun j => { j with unconfirmed := satInc j.unconfirmed }) (leaveList e.seq s))))
  | none => s

/-- An ARMED entry is cancelled when the line stops (R74). -/
def cancelEntry (e : EjectEntry) (s : State) : State :=
  if positionOf e.seq s = some ((ejectCfg s).pos) then missEjection e.seq s
  else updRecord e.seq (fun c => { c with ejection := some .onPitch }) (leaveList e.seq s)

/-- Every ARMED entry is cancelled at STOPPED (R74). -/
def cancelArmed (s : State) : State :=
  (s.reject.list.filter fun e => e.deadline.isNone).foldl (fun t e => cancelEntry e t) s

/-- The fire time held in an ARMED record moves with a step; a fired record's is a stamp (R75). -/
def shiftRecord (o : BitVec 64) (c : Record) : Record :=
  match c.ejection with
  | some (.armed t) => { c with ejection := some (.armed (t - o)) }
  | _ => c

/-- The Reject Unit's times across a step (R75). -/
def shiftReject (o : BitVec 64) (j : RejectUnit) : RejectUnit :=
  { j with
    pulseEnd := shiftOpt o j.pulseEnd
    list := j.list.map fun e => { e with fire := e.fire - o, deadline := shiftOpt o e.deadline } }

/-! ### Policy (R63, R64) -/

/-- The policy becomes `p`; a change appends POLICY_CHANGE with its cause, REQUEST 1, GRANT 2 or RELOAD 3. -/
def setPolicy (p : Policy) (cause : Word) (s : State) : State :=
  if s.reject.policy = p then s
  else
    append .policyChange 0 (fieldAt 8 (policyCode s.reject.policy) ||| fieldAt 0 (policyCode p)) cause
      (updReject (fun j => { j with policy := p }) s)

/-- BYPASS ends when the granted level falls below MAINTAIN or the grant closes (R64). -/
def policyFollowsGrant (s : State) : State :=
  if s.reject.policy = .bypass ∧ grantedLevel s ≠ .maintain then setPolicy .normal 2 s else s

end Sys2Proof.Machine
end

