-- ==== Sys2Proof/Machine/Cameras.lean ====
section
/-! DEFINITION. The Camera Unit (03): selection, triggers, the pending trigger lists, VERDICT frames, expiry. -/

namespace Sys2Proof.Machine

open Sys2Proof

/-- Causes of CAMERA_FAULT (R56). -/
def cameraLate : Nat := 1
def cameraUnmatched : Nat := 2
def cameraMissing : Nat := 3
def cameraSkipped : Nat := 4

/-- A CAMERA_FAULT: the flag and one event, camera in the high byte and cause in the low byte (R56). -/
def cameraFault (c : Fin 4) (cause : Nat) (second : Word) (s : State) : State :=
  append .cameraFault (BitVec.ofNat 16 c.val) (fieldAt 8 c.val ||| fieldAt 0 cause) second
    (raiseFlag flagCameraFault s)

/-- A camera slot of a record changed. -/
def setSlot (c : Fin 4) (x : Slot) (r : Record) : Record := { r with slots := r.slots.set c x }

/-- A slot without defects, in a state. -/
def bareSlot (x : SlotState) : Slot := ⟨x, [], false, false⟩

/-- The selection filter: the sequence number modulo 2^k equals the residue (R45). -/
def selects (g : CameraCfg) (q : Seq) : Bool := q.toNat % 2 ^ g.exponent == g.residue

/-- An entry joins the end of a pending trigger list; a list of 16 loses its oldest first (R48). -/
def pushTrigger (e : Trigger) (l : List Trigger) : List Trigger := (if 16 ≤ l.length then l.tail else l) ++ [e]

/-- A selected record is triggered (R46); the pulse end and the ready time are one and two pulse widths on (R47). The
camera's status is rewritten (R57). -/
def triggerCamera (c : Fin 4) (g : CameraCfg) (q : Seq) (s : State) : State :=
  rewriteMirror (.camera c)
    (updRecord q (setSlot c (bareSlot .waiting))
      (updCamera c (fun m =>
        { m with
          triggers := m.triggers + 1
          pulseEnd := some (s.time.now + ns (1000 * g.pulseUs))
          readyAt := some (s.time.now + ns (2000 * g.pulseUs))
          pending := pushTrigger ⟨m.triggers + 1, q, s.time.now, s.time.state, .waiting⟩ m.pending }) s))

/-- A record selected while the camera is not ready: its slot is MISSING at once (R47); the status is rewritten (R57). -/
def skipTrigger (c : Fin 4) (q : Seq) (s : State) : State :=
  rewriteMirror (.camera c)
    (cameraFault c cameraSkipped (lowWord q)
      (updRecord q (setSlot c (bareSlot .missing)) (updCamera c (fun m => { m with missings := satInc m.missings }) s)))

/-- A camera meets the record that reached its position at this pitch event (R45). -/
def cameraAtPitch (c : Fin 4) (s : State) : State :=
  match cameraCfg s c with
  | some g =>
    atPosition g.pos (fun r t =>
      if selects g r.seq then
        (if t.cameras[c].readyAt.isNone then triggerCamera c g r.seq t else skipTrigger c r.seq t)
      else t) s
  | none => s

/-- A WAITING slot of a record at D expires (R55); the status is rewritten (R57). -/
def expireSlot (c : Fin 4) (r : Record) (s : State) : State :=
  if r.slots[c].state = .waiting then
    rewriteMirror (.camera c)
      (cameraFault c cameraMissing (lowWord r.seq)
        (updRecord r.seq (setSlot c (bareSlot .missing))
          (updCamera c (fun m =>
            { m with
              missings := satInc m.missings
              pending := m.pending.map fun e => if e.seq = r.seq then { e with state := .expired } else e }) s)))
  else s

/-- The record that reaches D has its WAITING slots expired, camera 0 first (R55, R56). -/
def expireAtDecision (s : State) : State :=
  atPosition (decidePos s) (fun r t => allCameras.foldl (fun x c => expireSlot c r x) t) s

/-- The Camera Unit's work at a pitch event. R48 and R55 order expiry before a new trigger of the same camera; that every
camera expires before any selects, and that the cameras select in number order, is the model's choice (DESIGN CHOICE,
log 42). -/
def camerasAtPitch (s : State) : State := allCameras.foldl (fun t c => cameraAtPitch c t) (expireAtDecision s)

/-! ### VERDICT frames (R50 to R54); the body begins at byte 19 of the frame -/

/-- A verdict code (13.6). -/
def verdictSlot (b : Byte) : Option SlotState :=
  if b = 1 then some .pass else if b = 2 then some .fail else if b = 3 then some .unsure else none

/-- A VERDICT body is malformed (R50). -/
def verdictMalformed (body : List Byte) : Bool :=
  decide (body.length < 8) || (verdictSlot (byteAt body 1)).isNone || decide (15 < (byteAt body 2).toNat)

/-- The first `n` defect codes that a body carries after its fixed part, as far as whole codes are there (R52). -/
def defectCodes (body : List Byte) (n : Nat) : List Word :=
  (List.range (min n ((body.length - 8) / 2))).map fun i => be16 body (8 + 2 * i)

/-- The slot that a VERDICT body gives under a stored maximum (R51, R52). -/
def verdictSlotOf (body : List Byte) (m : Nat) : Slot :=
  let declared := (byteAt body 2).toNat
  let codes := defectCodes body declared
  { state := (verdictSlot (byteAt body 1)).getD .missing
    defects := codes.take m
    truncated := decide (m < codes.length)
    short := decide (codes.length < declared) }

/-- The answer latency: acceptance less trigger time, in µs rounded down, held to 0 and 65,535 (R51). -/
def latencyWord (fromT toT : Time) : Word := satWordInt (span fromT toT / 1000)

/-- The entry of a list with a trigger count (R51). -/
def findTrigger (n : Byte) (l : List Trigger) : Option Trigger := l.find? fun e => e.count == n

/-- The entry with a trigger count changed to a state. -/
def markTrigger (n : Byte) (x : TrigState) (l : List Trigger) : List Trigger :=
  l.map fun e => if e.count = n then { e with state := x } else e

/-- What a VERDICT frame of a camera does at its acceptance (R50 to R54). -/
def judgeVerdict (c : Fin 4) (body : List Byte) (s : State) : State :=
  match cameraCfg s c with
  | none => s
  | some g =>
    if verdictMalformed body then updCamera c (fun m => { m with malformeds := satInc m.malformeds }) s
    else
      let n := byteAt body 0
      match findTrigger n s.cameras[c].pending with
      | none =>
        cameraFault c cameraUnmatched (n.setWidth 16)
          (updCamera c (fun m => { m with unmatcheds := satInc m.unmatcheds }) s)
      | some e =>
        match e.state with
        | .waiting =>
          updRecord e.seq (setSlot c (verdictSlotOf body g.defectMax))
            (updCamera c (fun m =>
              { m with pending := markTrigger n .answered m.pending, latency := latencyWord e.time s.time.now }) s)
        | .expired =>
          cameraFault c cameraLate (lowWord e.seq)
            (updCamera c (fun m => { m with pending := markTrigger n .lateAnswered m.pending, lates := satInc m.lates }) s)
        | .answered => updCamera c (fun m => { m with duplicates := satInc m.duplicates }) s
        | .lateAnswered => updCamera c (fun m => { m with duplicates := satInc m.duplicates }) s

/-- A VERDICT frame of a camera at its acceptance; whatever the outcome its status is rewritten (R50 to R54, R57). -/
def acceptVerdict (c : Fin 4) (body : List Byte) (s : State) : State :=
  rewriteMirror (.camera c) (judgeVerdict c body s)

/-- A camera's deadlines across a step (R47). -/
def shiftCamera (o : BitVec 64) (m : Camera) : Camera :=
  { m with pulseEnd := shiftOpt o m.pulseEnd, readyAt := shiftOpt o m.readyAt }

/-- The pending list cleared, trigger count and counts kept (R59). -/
def clearTriggers (m : Camera) : Camera := { m with pending := [] }

end Sys2Proof.Machine
end

