-- ==== Sys2Proof/Machine/Tracking.lean ====
section
/-! DEFINITION. The Tracking Unit (02): encoder counting, the pitch event, the line state, the pitch period estimate,
the ring, announcements, fill reports and MARK. -/

namespace Sys2Proof.Machine

open Sys2Proof

/-- The tracking settings in force. -/
def trackCfg (s : State) : TrackCfg :=
  match s.cfg with
  | some c => c.track
  | none => ⟨0, 0, false, 0, 0, 0, 0, 0, 0⟩

/-- The Tracking Unit changed by `f`. -/
def updTrack (f : TrackUnit → TrackUnit) (s : State) : State := { s with track := f s.track }

/-! ### SUSPECT (R35) -/

/-- The numbers of the records at positions 0 to D − 1. -/
def undecidedSeqs (s : State) : List Seq := (s.track.ring.take (decidePos s)).map (·.seq)

/-- Every record at positions 0 to D − 1 is marked SUSPECT, and so is its waiting announcement (R35). -/
def markSuspect (s : State) : State :=
  updTrack (fun t =>
    { t with
      ring := (t.ring.take (decidePos s)).map (fun c => { c with suspect := true }) ++ t.ring.drop (decidePos s)
      queues := mapAll (fun q =>
        q.map fun a => if a.seq ∈ undecidedSeqs s then { a with suspect := true } else a) t.queues }) s

/-! ### Line state (R27) -/

/-- The encoder lines' mirror words are asked for at a change of line state, RUNNING or STOPPED (R172; log 63). -/
def askEncoderLines (s : State) : State :=
  if isActive s then
    askAll ((allLines.filter fun l =>
      match s.lines.line[l].record with | some rec => isEncoderFn rec.fn | none => false).map .line) s
  else s

/-- A change of line state: the flag and a LINE_STATE event (R27). -/
def setRunning (b : Bool) (second : Word) (s : State) : State :=
  askEncoderLines
    (append .lineState 0 (if b then 1 else 0) second
      (raiseFlag flagLineState (updTrack (fun t => { t with running := b }) s)))

/-- The stop timeout makes the line STOPPED; unfired ejections are cancelled (R27, R74). R180 leaves the order of the two
blocks' events open: LINE_STATE first, then the cancelled entries in list order (DESIGN CHOICE, log 42). -/
def lineStops (s : State) : State :=
  cancelArmed (setRunning false s.track.runPitches (updTrack (fun t => { t with stopAt := none }) s))

/-! ### The pitch period estimate (R29, R30) -/

/-- The measured interval before clamping, in nanoseconds. -/
def rawInterval (s : State) : Int := span (s.track.lastPitch.getD s.time.now) s.time.now

/-- The estimate after a clamped interval `m`: the first sets it, each later one moves it by floor((m − Π)/2^s) (R30). -/
def nextPeriod (shift : Nat) (intervals : Nat) (period : Option Nat) (m : Int) : Nat :=
  match period with
  | some p => if intervals = 0 then m.toNat else (p + (m - p) / 2 ^ shift : Int).toNat
  | none => m.toNat

/-- The estimate's part of a pitch event in RUNNING (R29, R30). -/
def measure (s : State) : State :=
  let g := trackCfg s
  let lo : Int := 1000 * g.periodMinUs
  let hi : Int := 1000 * g.periodMaxUs
  let m := clampInt lo hi (rawInterval s)
  updTrack (fun t =>
    { t with
      period := some (nextPeriod g.shift t.intervals t.period m)
      intervals := if t.intervals = 0 then 1 else 2
      overspeeds := if rawInterval s < lo then satInc t.overspeeds else t.overspeeds }) s

/-- Line state and estimate at a pitch event (R27, R29). -/
def runAtPitch (s : State) : State :=
  if s.track.running then measure (updTrack (fun t => { t with runPitches := satInc t.runPitches }) s)
  else
    setRunning true 0
      (updTrack (fun t => { t with runPitches := 1, intervals := 0, period := none }) s)

/-- The last pitch time and the stop timeout deadline (R28). -/
def restartStop (s : State) : State :=
  updTrack (fun t =>
    { t with lastPitch := some s.time.now
             stopAt := some (s.time.now + ns ((trackCfg s).stopMs * Config.msNs)) }) s

/-! ### The ring (R33, R34) -/

/-- The robot of a sequence number by the rota (R34). -/
def rotaRobot (s : State) (q : Seq) : Option (Fin 8) :=
  match s.cfg with
  | some c => c.rota[q.toNat % c.rota.length]?
  | none => none

/-- The debounced presence level shows no container: a PRESENCE line is configured and inactive (R34; log 39). A line
that still waits for its PRESENCE record behind a pulse shows the level it last accepted (DESIGN CHOICE, log 43). -/
def presenceEmpty (s : State) : Bool :=
  match lineWith s .presence with
  | some l => !s.lines.line[l].accepted
  | none => false

/-- A record with no marks, no results and bare slots. -/
def freshRecord (q : Seq) (t : Time) (quality : TimeState) (isEmpty : Bool) (r : Option (Fin 8)) : Record :=
  { seq := q, entry := t, quality := quality, robot := r, empty := isEmpty, suspect := false, unannounced := false,
    fillUnknown := false, fillMissing := false, forced := false, fill := none,
    slots := Vector.replicate 4 (bareSlot .notSelected), decision := none, ejection := none, confirm := none }

/-- The record that enters at a pitch event (R34). -/
def enteringRecord (s : State) : Record :=
  freshRecord s.track.nextSeq s.time.now s.time.state (presenceEmpty s)
    (if presenceEmpty s then none else rotaRobot s s.track.nextSeq)

/-- The ring moves by one position: a new record enters at position 0. The record that leaves stands one position past
the exit until `exitLast` takes it, so that the work of R67 on the other records finds it (R33, R67). -/
def moveRing (s : State) : State :=
  updTrack (fun t => { t with ring := enteringRecord s :: t.ring, nextSeq := t.nextSeq + 1 }) s

/-- The record past the exit leaves: EMPTY it is dropped, else it joins the exit queue (R33, R76). -/
def exitLast (s : State) : State :=
  match s.track.ring.getLast? with
  | some c =>
    let s1 := updTrack (fun t => { t with ring := t.ring.dropLast }) s
    if c.empty then s1 else joinExit c s1
  | none => s

/-! ### Announcements (R36, R37) and fill marks (R39) -/

/-- A record that reached its robot's station (R36). -/
def announce (r : Fin 8) (c : Record) (s : State) : State :=
  if s.robots[r].context = .running then
    if s.track.queues[r].length < 4 then updQueue r (· ++ [⟨c.seq, c.suspect⟩]) s
    else
      updTrack (fun t => { t with unannounceds := satInc t.unannounceds })
        (updRecord c.seq (fun x => { x with unannounced := true }) s)
  else
    updTrack (fun t => { t with fillUnknowns := satInc t.fillUnknowns })
      (updRecord c.seq (fun x => { x with fillUnknown := true }) s)

/-- The station mark of one robot at a pitch event (R36). -/
def stationMark (r : Fin 8) (s : State) : State :=
  match robotCfg s r with
  | some g => atPosition g.station (fun c t => if c.robot = some r then announce r c t else t) s
  | none => s

/-- The mark at the end of one robot's fill window (R39). -/
def windowMark (r : Fin 8) (s : State) : State :=
  match robotCfg s r with
  | some g =>
    atPosition (g.station + (trackCfg s).fillWindow)
      (fun c t =>
        if c.robot = some r ∧ c.fill = none then
          updTrack (fun u => { u with fillMissings := satInc u.fillMissings })
            (updRecord c.seq (fun x => { x with fillMissing := true }) t)
        else t) s
  | none => s

/-- The marks of the stations (R33, step 4). -/
def stationMarks (s : State) : State :=
  allRobots.foldl (fun t r => windowMark r t) (allRobots.foldl (fun t r => stationMark r t) s)

/-- A discarded announcement: its record, if still in the ring and not yet marked, is FILL_UNKNOWN (R37). -/
def dropAnnounce (a : Announce) (s : State) : State :=
  match positionOf a.seq s with
  | some p =>
    (match recordAt p s with
     | some c =>
       if c.fillUnknown then s
       else
         updTrack (fun t => { t with fillUnknowns := satInc t.fillUnknowns })
           (updRecord c.seq (fun x => { x with fillUnknown := true }) s)
     | none => s)
  | none => s

/-- A robot's queue is emptied because its context left RUNNING (R37). -/
def emptyQueue (r : Fin 8) (s : State) : State :=
  (s.track.queues[r]).foldl (fun t a => dropAnnounce a t) (updQueue r (fun _ => []) s)

/-! ### The pitch event (R33) and encoder counting (R23 to R26) -/

/-- A pitch event: line state and estimate, the ring and the station marks, the stop timeout, then the Camera Unit and
the Reject Unit, and last the record that leaves the ring (R33, R67). The decision sees the expiry (R55); that LINE_STATE
enters the event ring before every fault, and the Camera Unit's faults before all of the Reject Unit's, is the model's
choice (DESIGN CHOICE, log 42). -/
def pitchEvent (s : State) : State :=
  exitLast (rejectAtPitch s.time.now (camerasAtPitch (restartStop (stationMarks (moveRing (runAtPitch s))))))

/-- The pair that follows a pair in the forward order (2.1). -/
def forwardNext (bLeads : Bool) (a b : Bool) : Bool × Bool := if bLeads then (b, !a) else (!b, a)

/-- One forward count (R25, R26). -/
def forwardCount (s : State) : State :=
  let p : Int := (trackCfg s).pitchLen
  let a := s.track.acc + 256
  let s1 := updTrack (fun t => { t with acc := if p ≤ a then a - p else a
                                        excursion := if 0 ≤ a then false else t.excursion }) s
  if p ≤ a then pitchEvent s1 else s1

/-- One reverse count, with the reverse clamp at −P (R26). -/
def reverseCount (s : State) : State :=
  let p : Int := (trackCfg s).pitchLen
  let a := s.track.acc - 256
  if a < -p then
    if s.track.excursion then updTrack (fun t => { t with acc := -p }) s
    else
      let q : Seq := match s.track.ring with | c :: _ => c.seq | [] => 0
      markSuspect
        (append .reverseLimit 0 (lowWord q) (highWord q)
          (updTrack (fun t => { t with acc := -p, excursion := true, reverseLimits := satInc t.reverseLimits }) s))
  else updTrack (fun t => { t with acc := a }) s

/-- An illegal transition (R24). -/
def illegalEdge (s : State) : State :=
  markSuspect
    (append .encoderError 0 1 (newestLow s)
      (updTrack (fun t => { t with encoderErrors := satInc t.encoderErrors }) s))

/-- The new pair becomes the last pair. -/
def setPair (a b : Bool) (s : State) : State := updTrack (fun t => { t with pairA := a, pairB := b }) s

/-- An edge judged against the last pair (R23, R24). -/
def countEdge (a b : Bool) (s : State) : State :=
  let pa := s.track.pairA
  let pb := s.track.pairB
  if a = pa ∧ b = pb then s
  else if a ≠ pa ∧ b ≠ pb then illegalEdge (setPair a b s)
  else if (a, b) = forwardNext (trackCfg s).bLeads pa pb then forwardCount (setPair a b s)
  else reverseCount (setPair a b s)

/-- An encoder edge: counted in ACTIVE, noted in a RELOADING entered from ACTIVE, ignored elsewhere (R23, R44, R186). -/
def encoderEdge (a b : Bool) (s : State) : State :=
  if isActive s then countEdge a b s
  else if isReloading s then updTrack (fun t => { t with edgeNoted := true }) s
  else s

/-! ### Fill reports (R38) -/

/-- One entry of a fill report list of robot `r` (R38). -/
def applyFill (r : Fin 8) (e : FillReport) (s : State) : State :=
  match positionOf e.seq s with
  | none => updTrack (fun t => { t with fillLates := satInc t.fillLates }) s
  | some p =>
    match recordAt p s with
    | none => updTrack (fun t => { t with fillLates := satInc t.fillLates }) s
    | some c =>
      if c.empty ∨ c.robot ≠ some r then updTrack (fun t => { t with misdirecteds := satInc t.misdirecteds }) s
      else
        let st := match robotCfg s r with | some g => g.station | none => 0
        if st ≤ p ∧ p < st + (trackCfg s).fillWindow then
          if c.fill = none then updRecord c.seq (fun x => { x with fill := some ⟨e.ok, e.qty⟩ }) s
          else updTrack (fun t => { t with fillDuplicates := satInc t.fillDuplicates }) s
        else updTrack (fun t => { t with fillLates := satInc t.fillLates }) s

/-- A fill report list, entry by entry in list order (R38). -/
def applyFills (r : Fin 8) (l : List FillReport) (s : State) : State := l.foldl (fun t e => applyFill r e t) s

/-! ### MARK (R40) -/

/-- What a MARK finds: a reason to ignore it, or the record to force. -/
def markLookup (q : Seq) (s : State) : Word ⊕ Record :=
  match positionOf q s with
  | none => .inl reasonUnknown
  | some p =>
    match recordAt p s with
    | none => .inl reasonUnknown
    | some c => if decidePos s ≤ p then .inl reasonTooLate else if c.empty then .inl reasonEmpty else .inr c

/-- FORCED is set; the count moves unless it was already set (R40). -/
def forceRecord (c : Record) (s : State) : State :=
  updTrack (fun t => { t with forceds := if c.forced then t.forceds else satInc t.forceds })
    (updRecord c.seq (fun x => { x with forced := true }) s)

/-! ### The ring refilled (R42, R43, R44) -/

/-- `n` EMPTY records from number `q` at the exit up to position 0, entered now. -/
def emptyRing (n : Nat) (q : Seq) (t : Time) (quality : TimeState) : List Record :=
  (List.range n).map fun p => freshRecord (q + BitVec.ofNat 32 (n - 1 - p)) t quality true none

/-- The ring refilled with EMPTY records from the next sequence number (R43). -/
def refillRing (n : Nat) (s : State) : State :=
  updTrack (fun t => { t with ring := emptyRing n t.nextSeq s.time.now s.time.state
                              nextSeq := t.nextSeq + BitVec.ofNat 32 n }) s

/-- The records a reset of the line discards: those in the ring not EMPTY and those in the exit queue (R43). -/
def discardCount (s : State) : Nat :=
  (s.track.ring.filter fun c => !c.empty).length + s.reject.exitQueue.length

/-- The mirrors that a LINE_RESET rewrites (R41, R59, R83). -/
def resetMirrors : List Mirror := .tracking :: allCameras.map .camera ++ [.reject]

/-- The ring discarded and refilled under length `n`, with its LINE_RESET event, and the line's lists cleared: cause 1
for a LINE_RESET, 2 for a RELOAD (R43, R44, R59, R83). -/
def resetLine (n : Nat) (cause : Word) (s : State) : State :=
  let k := satWord (discardCount s)
  let s1 := updTrack (fun t => { t with queues := Vector.replicate 8 [], acc := 0, excursion := false }) (refillRing n s)
  rewriteAll resetMirrors
    (append .lineReset 0 k cause
      { s1 with cameras := mapAll clearTriggers s1.cameras
                reject := { s1.reject with list := [], exitQueue := [] } })

/-- Travel that a rejected reload left uncounted (R44); the second detail word is a free value (log 11). -/
def uncountedTravel (s : State) : State :=
  if s.track.edgeNoted then
    nextFree
      (append .encoderError 0 2 (Config.freeWord s.free)
        (markSuspect (updTrack (fun t => { t with encoderErrors := satInc t.encoderErrors }) s)))
  else s

/-- The Tracking Unit's times across a step (R28). -/
def shiftTrack (o : BitVec 64) (t : TrackUnit) : TrackUnit :=
  { t with lastPitch := shiftOpt o t.lastPitch, stopAt := shiftOpt o t.stopAt, ring := t.ring.map (shiftRecord o) }

end Sys2Proof.Machine
end

