-- ==== Sys2Proof/Machine/OutputBanks.lean ====
section
/-! DEFINITION. The output side of the Robot Exchange (06): hand-overs, the check engine, and the output roles at a
CYCLE. -/

namespace Sys2Proof.Machine

open Sys2Proof

/-- The bits of a section mask (R104). -/
def maskMotion : BitVec 2 := 1
def maskRecipe : BitVec 2 := 2

/-- A robot with one bank's role and mask set. -/
def setBank (i : Fin 3) (role : OutRole) (m : BitVec 2) (b : Robot) : Robot :=
  { b with out := b.out.set i role, masks := b.masks.set i m }

/-- The target of a hand-over: the lowest FREE bank, else the READY bank (R107). -/
def handoverTarget (b : Robot) : Option (Fin 3) :=
  match outBank b .free with
  | some i => some i
  | none => outBank b .ready

/-- The role changes of a hand-over with mask `m` (R107, steps 1 and 2). -/
def performRoles (m : BitVec 2) (b : Robot) : Robot :=
  match outBank b .host, handoverTarget b with
  | some h, some t =>
    let supersedes := (outBank b .free).isNone
    let m' := if supersedes then m ||| b.masks[t] else m
    let b' := setBank t .host 0 (setBank h .check m' b)
    { b' with handovers := satInc b.handovers
              superseded := if supersedes then satInc b.superseded else b.superseded }
  | _, _ => b

/-- A hand-over of robot `r` performed: the roles change and the CHECK bank joins the engine's queue (R107). -/
def performHandover (r : Fin 8) (m : BitVec 2) (s : State) : State :=
  let s1 := updRobot r (performRoles m) s
  { s1 with engine := { s1.engine with queue := s1.engine.queue ++ [r] } }

/-- The recipe section of robot `r` is empty (R106). -/
def recipeEmpty (s : State) (r : Fin 8) : Bool :=
  match robotCfg s r with
  | some g => g.nOut == g.motion
  | none => true

/-- The mask reduced, with the reason an empty one gives, and whether RECIPE was dropped for want of level (R106). -/
def reducedMask (s : State) (r : Fin 8) (w : Word) : BitVec 2 × Word × Bool :=
  let m : BitVec 2 := w.setWidth 2
  if recipeEmpty s r then (m &&& ~~~maskRecipe, reasonBadValue, false)
  else if m &&& maskRecipe = 0 then (m, reasonBadValue, false)
  else if atLeast (effectiveLevel s) .adjust then (m, reasonGrantLevel, false)
  else (m &&& ~~~maskRecipe, reasonGrantLevel, true)

/-- The outcome of a HANDOVER request recorded in its status word (R113). -/
def handoverResult (r : Fin 8) (x : ReqResult) (byte : Byte) (s : State) : State :=
  refreshHandover r (updRobot r (fun b => { b with result := x, maskByte := byte }) s)

/-- RECIPE dropped from a hand-over: counted, with a RECIPE_DROPPED event (R106). -/
def dropRecipe (r : Fin 8) (w : Word) (s : State) : State :=
  append .recipeDropped (BitVec.ofNat 16 r.val) (BitVec.ofNat 16 (levelCode (effectiveLevel s))) w
    (updRobot r (fun b => { b with recipeDrops := satInc b.recipeDrops }) s)

/-- The HANDOVER request of robot `r` with written word `w` (R104, R105). -/
def handoverRequest (r : Fin 8) (w : Word) (s : State) : State :=
  if w = 0 ∨ 3 < w.toNat then
    handoverResult r .ignored (loByte w) (ignoreEvent (handoverWord r) reasonBadValue w s)
  else if (robotCfg s r).isNone then
    handoverResult r .ignored (loByte w) (ignoreEvent (handoverWord r) reasonNotConfigured w s)
  else if (s.robots[r]).pendingMask.isSome then
    handoverResult r .overrun (loByte w)
      (raiseFlag flagOverrun (updRobot r (fun b => { b with overruns := satInc b.overruns }) s))
  else
    let (m, reason, dropped) := reducedMask s r w
    let s1 := if dropped then dropRecipe r w s else s
    if m = 0 then handoverResult r .ignored (loByte w) (ignoreEvent (handoverWord r) reason w s1)
    else if checking s1.robots[r] then
      handoverResult r .pended (m.setWidth 8) (updRobot r (fun b => { b with pendingMask := some m }) s1)
    else handoverResult r .taken (m.setWidth 8) (performHandover r m s1)

/-! ### The check engine (R108 to R112) -/

/-- A limit entry's validity and content from its four words (13.3). -/
def entryValid (ws : List Word) : Bool := (ws.getD 1 0).getLsbD 15

def entryOf (ws : List Word) : LimitEntry :=
  { offset := (ws.getD 0 0).toNat, signed := (ws.getD 1 0).getLsbD 0, lo := ws.getD 2 0, hi := ws.getD 3 0 }

/-- One word is no greater than another, in a kind (R109, R110). -/
def leIn (signed : Bool) (a b : Word) : Bool := if signed then decide (a.toInt ≤ b.toInt) else decide (a.toNat ≤ b.toNat)

/-- A valid entry is bad: its offset is not below the motion length, or its minimum lies above its maximum (R109). -/
def entryBad (motion : Nat) (e : LimitEntry) : Bool := decide (motion ≤ e.offset) || !leIn e.signed e.lo e.hi

/-- The four words of entry `i` of a limit pass. -/
def entryWords (ws : List Word) (i : Nat) : List Word := (ws.drop (4 * i)).take 4

/-- The numbers of the bad entries of a limit pass, in order (R109). -/
def badEntryNumbers (motion : Nat) (ws : List Word) : List Nat :=
  (List.range 32).filter fun i => entryValid (entryWords ws i) && entryBad motion (entryOf (entryWords ws i))

/-- The entries the word pass uses, in order (R109). -/
def usedEntries (motion : Nat) (ws : List Word) : List LimitEntry :=
  ((List.range 32).filter fun i =>
    entryValid (entryWords ws i) && !entryBad motion (entryOf (entryWords ws i))).map fun i => entryOf (entryWords ws i)

/-- A word clamped by an entry, in the entry's kind (R110). -/
def clampWord (e : LimitEntry) (v : Word) : Word :=
  if !leIn e.signed e.lo v then e.lo else if !leIn e.signed v e.hi then e.hi else v

/-- A word clamped by every used entry at its offset, in entry order (R110). -/
def clampAll (used : List LimitEntry) (k : Nat) (v : Word) : Word :=
  used.foldl (fun x e => if e.offset = k then clampWord e x else x) v

/-- The check in progress replaced. -/
def setCheck (c : Option CheckRun) (s : State) : State := { s with engine := { s.engine with current := c } }

/-- The engine has a word waiting (R99, R108). -/
def engineWaiting (s : State) : Bool :=
  match s.engine.current with
  | none => false
  | some c =>
    match c.used with
    | none => decide (c.limitWords.length < 128)
    | some _ => (match robotCfg s c.robot with | some g => decide (c.index < g.nOut) | none => false)

/-- The address of word `k` of the bank of robot `r` that holds a role. -/
def roleAddr (s : State) (r : Fin 8) (role : OutRole) (k : Nat) : Nat :=
  match s.cfg, robotCfg s r, outBank s.robots[r] role with
  | some c, some g, some b => outBankAddr c r g.nOut b k
  | _, _, _ => 0

/-- One slot of the check engine: a limit word read; or a word read, written back when clamped, or copied forward. The
first clamped word of a check raises CLAMPED (R108 to R111). -/
def engineSlot (s : State) : State :=
  match s.engine.current, s.cfg with
  | some c, some g =>
    (match c.used with
     | none =>
       setCheck (some { c with
         limitWords := c.limitWords ++ [s.sram.readWord (limitAddr g c.robot c.limitWords.length)] }) s
     | some used =>
       match c.stage with
       | .read =>
         let v := s.sram.readWord (roleAddr s c.robot .check c.index)
         let f := clampAll used c.index v
         setCheck (some { c with stage := if f = v then .copy f else .writeBack f }) s
       | .writeBack f =>
         let s1 := updRobot c.robot (fun b => { b with clamps := satInc b.clamps })
           (writeSram (roleAddr s c.robot .check c.index) f s)
         setCheck (some { c with stage := .copy f, first := some (c.first.getD c.index) })
           (if c.first.isNone then raiseFlag flagClamped s1 else s1)
       | .copy f =>
         setCheck (some { c with stage := .read, index := c.index + 1 })
           (writeSram (roleAddr s c.robot .host c.index) f s))
  | _, _ => s

/-- The idle engine begins the check of the bank at the head of its queue; its wait count starts at 0 (R99, R108). -/
def startCheck (s : State) : State :=
  match s.engine.current, s.engine.queue with
  | none, r :: _ =>
    setWaits (fun w => { w with engine := 0 })
      (setCheck (some { robot := r, limitWords := [], used := none, index := 0, stage := .read, first := none }) s)
  | _, _ => s

/-- The limit pass ends when its 128 words have been read (R109). -/
def endLimitPass (s : State) : State :=
  match s.engine.current with
  | some c =>
    if c.used.isNone ∧ 128 ≤ c.limitWords.length then
      (match robotCfg s c.robot with
       | some g =>
         let bad := badEntryNumbers g.motion c.limitWords
         let s1 := setCheck (some { c with used := some (usedEntries g.motion c.limitWords) }) s
         (match bad with
          | [] => s1
          | i :: _ =>
            append .limitEntryBad (BitVec.ofNat 16 c.robot.val) (BitVec.ofNat 16 i) (BitVec.ofNat 16 bad.length)
              (updRobot c.robot (fun b => { b with badEntries := satInc b.badEntries }) s1))
       | none => s)
    else s
  | none => s

/-- The role changes of a completed check (R112, step 1). -/
def completeRoles (b : Robot) : Robot :=
  match outBank b .check with
  | some c =>
    (match outBank b .ready with
     | some y =>
       { setBank y .free 0 (setBank c .ready (b.masks[c] ||| b.masks[y]) b) with superseded := satInc b.superseded }
     | none => setBank c .ready b.masks[c] b)
  | none => b

/-- The word pass of the check in progress has written its last word (R112). -/
def checkDone (s : State) : Option CheckRun :=
  match s.engine.current with
  | some c =>
    (match c.used, robotCfg s c.robot with
     | some _, some g => if g.nOut ≤ c.index then some c else none
     | _, _ => none)
  | none => none

/-- Steps 1 and 2 of a completed check: roles, counts, first clamped offset, the engine's queue (R111, R112). -/
def finishCheck (c : CheckRun) (s : State) : State :=
  let s1 := updRobot c.robot (fun b =>
    { completeRoles b with
      checks := satInc b.checks
      firstClamped := (match c.first with | some k => BitVec.ofNat 16 k | none => b.firstClamped) }) s
  { s1 with engine := { queue := s1.engine.queue.tail, current := none } }

/-- Step 4 of a completed check: a pending hand-over is performed with its kept mask (R112). -/
def takePending (r : Fin 8) (s : State) : State :=
  match (s.robots[r]).pendingMask with
  | some m => updRobot r (fun b => { b with pendingMask := none }) (performHandover r m s)
  | none => s

/-! ### Roles at CYCLE (R114) -/

/-- READY becomes LINK; the outgoing LINK's unsent bits are united into its mask (R114). -/
def takeReady (b : Robot) : Robot :=
  match outBank b .ready with
  | some y =>
    (match outBank b .link with
     | some l => setBank l .free 0 (setBank y .link (b.masks[y] ||| b.masks[l]) b)
     | none => setBank y .link b.masks[y] b)
  | none => b

/-- The output roles and the stale count of a robot at a CYCLE (R114, R117). -/
def rolesAtCycle (b : Robot) : Robot :=
  match b.context with
  | .running | .safe =>
    if (outBank b .ready).isSome then { takeReady b with stale := 0 } else { b with stale := satInc b.stale }
  | _ => b

/-- A completed frame's bits leave the LINK bank's mask (R115). -/
def clearSent (m : BitVec 2) (b : Robot) : Robot :=
  match outBank b .link with
  | some l => setBank l .link (b.masks[l] &&& ~~~m) b
  | none => b

end Sys2Proof.Machine
end

