-- ==== Sys2Proof/Machine/Cycles.lean ====
section
/-! DEFINITION. Robot cycles and answers (07): contexts, CYCLE frames, the output watchdog, ANSWER frames, missed
answers, input banks and TAKE. -/

namespace Sys2Proof.Machine

open Sys2Proof

/-! ### Contexts (R122, R123) -/

/-- A change of context: the count, a ROBOT_STATE event, and on leaving RUNNING the announcement queue emptied (R123). -/
def setContext (r : Fin 8) (x : Context) (s : State) : State :=
  let old := (s.robots[r]).context
  if old = x then s
  else
    let s1 := append .robotState (BitVec.ofNat 16 r.val) (BitVec.ofNat 16 (contextCode old))
      (BitVec.ofNat 16 (contextCode x))
      (updRobot r (fun b => { b with context := x, ctxChanges := satInc b.ctxChanges }) s)
    if old = .running then emptyQueue r s1 else s1

/-- The FILLING bank becomes FREE and the answer is given up (R122, R133, R139). -/
def dropAnswer (b : Robot) : Robot :=
  match b.answer with
  | some a => { b with inp := b.inp.set a.bank .free, answer := none }
  | none => b

/-- An admitted answer of robot `r` in reception is abandoned: the rest of the frame is ignored (R122). -/
def abandonReception (r : Fin 8) (f : FieldPort) : FieldPort :=
  match f.receiving with
  | some x =>
    (match x.stage with
     | .answer p q _ => if q = r then { f with receiving := some { x with stage := .answer p q .abandoned } } else f
     | _ => f)
  | none => f

/-- The bytes of the frame in transmission that can have been sent: its head and the section words read (R126). -/
def readBytes (x : Sending) : List Byte := x.frame.head ++ x.words.flatMap bytes16

/-- A frame shorter than the least length Ethernet allows, padded with zero bytes before its check (R191; that length is
PRESUMED, log 53). -/
def padFrame (bs : List Byte) : List Byte := bs ++ List.replicate (Config.leastFrame - bs.length) 0

/-- A frame, padded, closed by a frame check that misses by `d`, never 0: it cannot match (R127, R191). -/
def spoilFrame (d : Nat) (bs : List Byte) : List Byte :=
  padFrame bs ++ bytes32 (Config.frameCheck (padFrame bs) + BitVec.ofNat 32 (1 + d % 4294967295))

/-- A frame ended after at least its first byte: what was sent of it, padded, and closed by a frame check that cannot match.
How much was sent and what the check is are free values, the `m`-th of its kind (R126, R127, R191; log 11). -/
def endedFrame (n m : Nat) (bs : List Byte) : List Byte :=
  spoilFrame (Config.spoiledBy n m) (bs.take (1 + Config.sentBytes n m % bs.length))

/-- The frame in transmission is ended (R127). -/
def endSending (n : Nat) (f : FieldPort) : FieldPort :=
  match f.sending with
  | some x =>
    { f with sending := none, lastSent := endedFrame n f.endings (readBytes x), endings := f.endings + 1 }
  | none => f

/-- A frame of robot `r` in transmission is ended (R122, R127). -/
def endSendingOf (n : Nat) (r : Fin 8) (f : FieldPort) : FieldPort :=
  match f.sending with
  | some x => if x.frame.robot = r then endSending n f else f
  | none => f

/-- Entry to OFFLINE (R122). -/
def goOffline (r : Fin 8) (s : State) : State :=
  let s1 := setContext r .offline s
  let s2 := updRobot r (fun b => { dropAnswer b with answerState := .none, safePending := false }) s1
  let f := abandonReception r (endSendingOf s2.free r s2.field)
  { s2 with field := { f with sendList := f.sendList.filter (fun t => t.robot ≠ r)
                              deposits := f.deposits.filter (· ≠ r) } }

/-- Entry to STARTING (R122). -/
def goStarting (r : Fin 8) (s : State) : State :=
  updRobot r (fun b => { b with missedRun := 0, stale := 0 }) (setContext r .starting s)

/-- A port is usable: link UP, desired and known ENABLED (R122). -/
def portUsable (p : Port) : Bool := p.link == .up && p.desired && p.known == .enabled

/-- The Robot Exchange follows a port record: the robot of a ROBOT port goes OFFLINE or STARTING (R122). -/
def followPort (p : Fin 16) (s : State) : State :=
  match (s.switch.ports[p]).role with
  | .robot r =>
    if (robotCfg s r).isNone then s
    else if portUsable s.switch.ports[p] then
      (if (s.robots[r]).context = .offline then goStarting r s else s)
    else (if (s.robots[r]).context = .offline then s else goOffline r s)
  | _ => s

/-! ### Missed answers (R134) -/

/-- A missed answer: the counts, and LOST at the limit in RUNNING or SAFE (R134). -/
def missAnswer (r : Fin 8) (s : State) : State :=
  let s1 := updRobot r (fun b => { b with missedRun := satInc b.missedRun, missedTotal := satInc b.missedTotal }) s
  let b := s1.robots[r]
  let limit := match robotCfg s r with | some g => g.missedLimit | none => 0
  if limit ≤ b.missedRun.toNat ∧ (b.context = .running ∨ b.context = .safe) then
    raiseFlag flagRobotFault
      (updRobot r (fun x => { x with safePending := false }) (setContext r .lost s1))
  else s1

/-- Step 1 of a robot's CYCLE: the answer state judged (R134). -/
def judgeAnswerState (r : Fin 8) (s : State) : State :=
  match (s.robots[r]).answerState with
  | .due => updRobot r (fun b => { b with answerState := .none }) (missAnswer r s)
  | .started => s
  | _ => updRobot r (fun b => { b with answerState := .none }) s

/-! ### The robot's CYCLE (R124, R125, R128) -/

/-- Step 2: a pending SAFE entry takes effect (R124). -/
def enterPendingSafe (r : Fin 8) (s : State) : State :=
  if (s.robots[r]).safePending ∧ (s.robots[r]).context = .running then
    updRobot r (fun b => { b with safePending := false }) (setContext r .safe s)
  else s

/-- Step 3: roles and stale count; a SAFE robot that takes a READY becomes RUNNING (R114, R124). -/
def settleRoles (r : Fin 8) (s : State) : State :=
  let tookReady := (outBank s.robots[r] .ready).isSome
  let wasSafe := (s.robots[r]).context = .safe
  let s1 := updRobot r rolesAtCycle s
  if wasSafe ∧ tookReady then setContext r .running s1 else s1

/-- Step 4: the output watchdog (R128). -/
def testWatchdog (r : Fin 8) (s : State) : State :=
  match robotCfg s r with
  | some g =>
    let b := s.robots[r]
    if b.context = .running ∧ g.watchdog ≠ 0 ∧ g.watchdog ≤ b.stale.toNat ∧ b.safePending = false then
      let s1 := raiseFlag flagRobotFault (updRobot r (fun x => { x with expiries := satInc x.expiries }) s)
      if g.nextCycle then updRobot r (fun x => { x with safePending := true }) s1 else setContext r .safe s1
    else s
  | none => s

/-- The switch port of a robot, for the port tag of its frame (R191). -/
def portOfRobot (s : State) (r : Fin 8) : Nat :=
  match allPorts.find? fun p => (s.switch.ports[p]).role == .robot r with
  | some p => p.val
  | none => 0

/-- The bytes of a CYCLE frame up to its sections (13.6). -/
def cycleHead (c : Settings) (g : RobotCfg) (port : Nat) (r : Fin 8) (ctx : Context) (n : Word) (t : Time)
    (anns : List Announce) (m : BitVec 2) : List Byte :=
  List.replicate 6 0xFF ++ List.replicate 6 0 ++ bytes16 c.ports.tagMarker ++ [BitVec.ofNat 8 port, 0]
    ++ bytes16 c.ports.hallType ++ [1]
    ++ [BitVec.ofNat 8 r.val, BitVec.ofNat 8 (contextCode ctx)] ++ bytes16 n
    ++ bytes64 (t + ns (1000 * g.applyUs)) ++ bytes64 (t + ns (1000 * g.sampleUs))
    ++ [BitVec.ofNat 8 anns.length, m.setWidth 8, BitVec.ofNat 8 g.motion,
        if m &&& maskRecipe = 0 then 0 else BitVec.ofNat 8 (g.nOut - g.motion)]
    ++ anns.flatMap fun a => bytes32 a.seq ++ [if a.suspect then 1 else 0]

/-- The frame of robot `r`: LINK's motion section with its mask in RUNNING, else the safe image with an empty mask
(R114, R115, R118, R125). -/
def frameOf (c : Settings) (g : RobotCfg) (r : Fin 8) (n : Word) (t : Time) (s : State) : TxFrame :=
  let b := s.robots[r]
  let anns := s.track.queues[r]
  match (if b.context = .running then outBank b .link else none) with
  | some l =>
    let m := b.masks[l]
    { robot := r, cycle := n, head := cycleHead c g (portOfRobot s r) r b.context n t anns m, mask := m,
      base := outBankAddr c r g.nOut l 0, len := if m &&& maskRecipe = 0 then g.motion else g.nOut }
  | none =>
    { robot := r, cycle := n, head := cycleHead c g (portOfRobot s r) r b.context n t anns 0, mask := 0,
      base := safeAddr c r, len := g.motion }

/-- Step 5: the frame joins the send list and takes the announcement queue with it (R37, R125, R126). -/
def buildFrame (r : Fin 8) (n : Word) (t : Time) (s : State) : State :=
  match s.cfg, robotCfg s r with
  | some c, some g =>
    let f := frameOf c g r n t s
    updQueue r (fun _ => []) { s with field := { s.field with sendList := s.field.sendList ++ [f] } }
  | _, _ => s

/-- The five steps of one robot at a CYCLE (R124). -/
def robotCycle (n : Word) (t : Time) (r : Fin 8) (s : State) : State :=
  if (robotCfg s r).isNone ∨ (s.robots[r]).context = .offline then s
  else buildFrame r n t (testWatchdog r (settleRoles r (enterPendingSafe r (judgeAnswerState r s))))

/-- The frames of the previous cycle not sent: those waiting and the one in transmission (R127). -/
def unsentFrames (s : State) : List TxFrame :=
  s.field.sendList ++ (match s.field.sending with | some x => [x.frame] | none => [])

/-- They are dropped or ended, counted, and one TX_DROPPED event is appended (R127). A frame ended leaves the port closed by
a frame check that cannot match. -/
def dropUnsent (s : State) : State :=
  match unsentFrames s with
  | [] => s
  | f :: fs =>
    let rs := (f :: fs).map (·.robot)
    let s1 := rs.foldl (fun t r => updRobot r (fun b => { b with txDropped := satInc b.txDropped }) t) s
    append .txDropped 0
      (BitVec.ofNat 16 ((allRobots.filter fun r => r ∈ rs).map fun r => 2 ^ r.val).sum) f.cycle
      { s1 with field := { endSending s1.free s1.field with sendList := [] } }

/-- The Robot Exchange's work at a CYCLE (R124). -/
def robotsAtCycle (n : Word) (t : Time) (s : State) : State :=
  allRobots.foldl (fun x r => robotCycle n t r x) (dropUnsent s)

/-! ### Transmission (R126) -/

/-- The port begins the frame at the head of the send list; the reader's wait count starts at 0 (R99, R126). -/
def startSending (s : State) : State :=
  match s.field.sending, s.field.sendList with
  | none, f :: fs =>
    setWaits (fun w => { w with reader := 0 })
      { s with field := { s.field with sending := some ⟨f, []⟩, sendList := fs } }
  | _, _ => s

/-- The frame transmit reader has a word waiting (R99). -/
def readerWaiting (s : State) : Bool :=
  match s.field.sending with
  | some x => decide (x.words.length < x.frame.len)
  | none => false

/-- One slot of the frame transmit reader (R126). -/
def readerSlot (s : State) : State :=
  match s.field.sending with
  | some x =>
    { s with field := { s.field with
        sending := some { x with words := x.words ++ [s.sram.readWord (x.frame.base + x.words.length)] } } }
  | none => s

/-- A frame, padded, closed by its frame check of four bytes (R191). -/
def closeFrame (bs : List Byte) : List Byte := padFrame bs ++ bytes32 (Config.frameCheck (padFrame bs))

/-- The transmission of a frame completes when its words have all been read (R115, R126). -/
def completeSending (s : State) : State :=
  match s.field.sending with
  | some x =>
    if x.frame.len ≤ x.words.length then
      let s1 := updRobot x.frame.robot (fun b =>
        { clearSent x.frame.mask b with
          lastCycleSent := some x.frame.cycle
          answerState := .due
          lastSend := some s.time.now
          answer := b.answer.map fun a => { a with newer := true } }) s
      { s1 with field := { s1.field with sending := none, lastSent := closeFrame (readBytes x) } }
    else s
  | none => s

/-! ### ANSWER frames (R129 to R133); the body begins at byte 19 -/

/-- The fill report count of an ANSWER body. -/
def fillCount (body : List Byte) : Nat := (byteAt body 12).toNat

/-- Where the declared input word count of an ANSWER body stands. -/
def declaredAt (body : List Byte) : Nat := 13 + 7 * fillCount body

/-- A robot status code (13.6). -/
def reportedOf (b : Byte) : Option Reported := if b = 1 then some .ready else if b = 2 then some .fault else none

/-- An ANSWER body is malformed (R129). -/
def answerMalformed (body : List Byte) : Bool :=
  decide (8 < fillCount body) || (reportedOf (byteAt body 11)).isNone
    || ((List.range (fillCount body)).any fun i => byteAt body (13 + 7 * i + 4) != 1 && byteAt body (13 + 7 * i + 4) != 2)
    || decide (body.length < declaredAt body + 2)

/-- The fill reports of an ANSWER body (13.6). -/
def fillReports (body : List Byte) : List FillReport :=
  (List.range (fillCount body)).map fun i =>
    ⟨be32 body (13 + 7 * i), byteAt body (13 + 7 * i + 4) == 1, be16 body (13 + 7 * i + 5)⟩

/-- The words carried: the first min(d, a), d declared and a whole words in the body (R131). -/
def carriedWords (body : List Byte) : List Word :=
  let at0 := declaredAt body + 2
  (List.range (min (be16 body (declaredAt body)).toNat ((body.length - at0) / 2))).map fun i => be16 body (at0 + 2 * i)

/-- Judgements of a well-formed answer (R130). -/
inductive AnswerJudgement where
  | stale
  | duplicate
  | valid
  deriving DecidableEq, Repr

/-- The judgement of an answer that echoes a cycle number (R130). -/
def judgeAnswer (b : Robot) (echoed : Word) : AnswerJudgement :=
  if b.context = .offline then .stale
  else if b.lastCycleSent ≠ some echoed then .stale
  else match b.answerState with
    | .due | .failed => .valid
    | .started | .answered => .duplicate
    | .none => .stale

/-- A valid answer takes bank `k` (R130, R131). -/
def beginAnswer (k : Fin 3) (nIn : Nat) (body : List Byte) (now : Time) (b : Robot) : Robot :=
  let ws := carriedWords body
  { b with
    inp := b.inp.set k .filling
    answerState := .started
    latency := latencyWord (b.lastSend.getD now) now
    answer := some { bank := k, cycle := be16 body 1, sample := be64 body 3,
                     status := (reportedOf (byteAt body 11)).getD .none, fills := fillReports body,
                     left := padWords nIn ws, next := 0, short := decide (ws.length < nIn),
                     long := decide (nIn < ws.length), ended := false, newer := false } }

/-- The robot whose deposit has a word waiting. Where several are unfinished R131 does not say whose word is next: the
earliest start is served first (R99, R131; DESIGN CHOICE, log 51). -/
def depositor (s : State) : Option (Fin 8) :=
  s.field.deposits.find? fun r =>
    match (s.robots[r]).answer with
    | some a => !a.left.isEmpty
    | none => false

/-- A deposit joins the list; the count of an idle depositor starts at 0 (R99, R131). -/
def joinDeposits (r : Fin 8) (s : State) : State :=
  let s1 : State := { s with field := { s.field with deposits := s.field.deposits ++ [r] } }
  if (depositor s).isNone then setWaits (fun w => { w with deposit := 0 }) s1 else s1

/-- The start of an answer of robot `r` (R129, R130). A bank already FILLING keeps the new answer out (log 13). -/
def startAnswer (r : Fin 8) (body : List Byte) (s : State) : State :=
  if answerMalformed body then updRobot r (fun b => { b with badAnswers := satInc8 b.badAnswers }) s
  else
    let b := s.robots[r]
    match judgeAnswer b (be16 body 1) with
    | .stale => updRobot r (fun x => { x with staleAnswers := satInc x.staleAnswers }) s
    | .duplicate => updRobot r (fun x => { x with dupAnswers := satInc x.dupAnswers }) s
    | .valid =>
      match inBank b .free, inBank b .filling, robotCfg s r with
      | some k, none, some g => updRobot r (beginAnswer k g.nIn body s.time.now) (joinDeposits r s)
      | _, _, _ => updRobot r (fun x => { x with inputLost := satInc x.inputLost }) s

/-- The stage of the ANSWER in reception replaced. -/
def setAnswerStage (x : AnswerStage) (f : FieldPort) : FieldPort :=
  match f.receiving with
  | some rx =>
    (match rx.stage with
     | .answer p r _ => { f with receiving := some { rx with stage := .answer p r x } }
     | _ => f)
  | none => f

/-- The body of a frame (13.6). -/
def bodyOf (bytes : List Byte) : List Byte := bytes.drop 19

/-- The admitted ANSWER in reception is judged at its start (R129). It counts as started when it took a bank. -/
def answerStarts (s : State) : State :=
  match s.field.receiving with
  | some rx =>
    (match rx.stage with
     | .answer _ r .arriving =>
       let s1 := startAnswer r (bodyOf rx.bytes) s
       let took := s1.field.deposits.length ≠ s.field.deposits.length
       { s1 with field := setAnswerStage (if took then .started else .settled) s1.field }
     | _ => s)
  | none => s

/-- One slot of the answer deposit (R131). -/
def depositSlot (s : State) : State :=
  match depositor s, s.cfg with
  | some r, some c =>
    (match (s.robots[r]).answer, robotCfg s r with
     | some a, some g =>
       (match a.left with
        | w :: ws =>
          updRobot r (fun b => { b with answer := some { a with left := ws, next := a.next + 1 } })
            (writeSram (inBankAddr c r g.nIn a.bank a.next) w s)
        | [] => s)
     | _, _ => s)
  | _, _ => s

/-- Banks of a completed answer: FILLING becomes FRESH with its metadata, an older FRESH becomes FREE (R132, step 1). -/
def depositBanks (a : Answer) (b : Robot) : Robot :=
  let info : InMeta := ⟨a.cycle, a.sample, a.short, a.long, true⟩
  let b1 := match inBank b .fresh with
    | some o => { b with inp := b.inp.set o .free, inputLost := satInc b.inputLost }
    | none => b
  { b1 with inp := b1.inp.set a.bank .fresh, infos := b1.infos.set a.bank info, deposited := satInc b1.deposited,
            answer := none }

/-- The reported status taken (R132, step 4). -/
def takeReport (r : Fin 8) (x : Reported) (s : State) : State :=
  let old := (s.robots[r]).reported
  if old = x then s
  else
    let s1 := append .robotReport (BitVec.ofNat 16 r.val) (BitVec.ofNat 16 (reportedCode old))
      (BitVec.ofNat 16 (reportedCode x)) (updRobot r (fun b => { b with reported := x }) s)
    if x = .fault then raiseFlag flagRobotFault s1 else s1

/-- The context at the completion of a valid answer (R132, step 3). -/
def contextAfterAnswer (r : Fin 8) (s : State) : State :=
  match (s.robots[r]).context with
  | .starting => setContext r .running s
  | .lost => updRobot r (fun b => { b with stale := 0 }) (setContext r .running s)
  | _ => s

/-- A valid answer with a good check completes when its deposit has finished (R132). -/
def completeAnswer (r : Fin 8) (s : State) : State :=
  match (s.robots[r]).answer with
  | some a =>
    if a.ended = true ∧ a.left = [] then
      let s1 := raiseFlag flagInputFresh (updRobot r (depositBanks a) s)
      let s2 := updRobot r (fun b =>
        { b with answerState := if a.newer then b.answerState else .answered, missedRun := 0 }) s1
      let s3 := { s2 with field := { s2.field with deposits := s2.field.deposits.filter (· ≠ r) } }
      applyFills r a.fills (takeReport r a.status (contextAfterAnswer r s3))
    else s
  | none => s

/-- A valid answer whose frame check fails at its end (R133). -/
def failAnswer (r : Fin 8) (s : State) : State :=
  match (s.robots[r]).answer with
  | some a =>
    let s1 := updRobot r (fun b =>
      { dropAnswer b with answerState := if a.newer then b.answerState else .failed }) s
    missAnswer r { s1 with field := { s1.field with deposits := s1.field.deposits.filter (· ≠ r) } }
  | none => s

/-- The reception of a valid answer ended with a good check (R132). -/
def endAnswer (r : Fin 8) (s : State) : State :=
  updRobot r (fun b => { b with answer := b.answer.map fun a => { a with ended := true } }) s

/-! ### TAKE (R135) -/

/-- FRESH becomes HOST_IN and the old HOST_IN FREE (R135). -/
def takeBanks (f : Fin 3) (b : Robot) : Robot :=
  match inBank b .hostIn with
  | some h => { b with inp := (b.inp.set h .free).set f .hostIn }
  | none => { b with inp := b.inp.set f .hostIn }

/-- The TAKE request of robot `r` with written word `w` (R135, R175). -/
def takeRequest (r : Fin 8) (w : Word) (s : State) : State :=
  if (robotCfg s r).isNone then
    setStatus (takeWord r) (fieldAt 12 (resultCode .ignored)) (ignoreEvent (takeWord r) reasonNotConfigured w s)
  else
    match inBank s.robots[r] .fresh with
    | some f =>
      setStatus (takeWord r) (fieldAt 12 (resultCode .taken) ||| ((s.robots[r]).infos[f].cycle &&& 0x0FFF))
        (updRobot r (takeBanks f) s)
    | none => setStatus (takeWord r) (fieldAt 12 (resultCode .noFresh)) s

/-- A robot's last send time across a step (R136). -/
def shiftRobot (o : BitVec 64) (b : Robot) : Robot := { b with lastSend := shiftOpt o b.lastSend }

end Sys2Proof.Machine
end

