-- ==== Sys2Proof/Machine/Switch.lean ====
section
/-! DEFINITION. The Switch Supervisor (09): the port table, commands and replies, link and flapping, PORT requests, and
frame admission. -/

namespace Sys2Proof.Machine

open Sys2Proof

/-- The port settings in force. -/
def portCfg (s : State) : PortCfg :=
  match s.cfg with
  | some c => c.ports
  | none => ⟨0, 0, 0, 0, Vector.replicate 16 .spare⟩

/-- The Switch Supervisor changed by `f`. -/
def updSwitch (f : SwitchUnit → SwitchUnit) (s : State) : State := { s with switch := f s.switch }

/-! ### The command queue (R154) -/

/-- A command for a port joins the queue, or replaces the action of the port's queued command in place. -/
def queueCommand (p : Fin 16) (a : CmdAction) (q : List Cmd) : List Cmd :=
  if q.any fun c => c.port == p then q.map fun c => if c.port = p then { c with action := a } else c else q ++ [⟨p, a⟩]

/-- A command is requested for a port. -/
def requestCommand (p : Fin 16) (a : CmdAction) (s : State) : State :=
  updSwitch (fun w => { w with queue := queueCommand p a w.queue }) s

/-- The port has a command in the queue. -/
def hasQueued (p : Fin 16) (s : State) : Bool := s.switch.queue.any fun c => c.port == p

/-- The action that brings a port to an admin state. -/
def setAction (enabled : Bool) : CmdAction := if enabled then .enable else .disable

/-! ### Desired and known state (R153) -/

/-- The desired admin state of a port record, ENABLED when true (R153). -/
def desiredState (grantOpen : Bool) (p : Port) : Bool :=
  match p.role with
  | .spare => false
  | .service => grantOpen
  | _ => !p.quarantined && !p.hostDisabled

/-- The desired state of a port formed again; a change queues its PORT_SET and is followed by the robot (R122, R153). -/
def formDesired (p : Fin 16) (s : State) : State :=
  let d := desiredState s.grant.isOpen s.switch.ports[p]
  if (s.switch.ports[p]).desired = d then s
  else followPort p (requestCommand p (setAction d) (updPort p (fun x => { x with desired := d }) s))

/-- The SERVICE port follows a grant that opened or closed (R143, R146, R153). -/
def serviceFollowsGrant (s : State) : State :=
  (allPorts.filter fun p => (s.switch.ports[p]).role == .service).foldl (fun t p => formDesired p t) s

/-- PORT_CHANGE and the time of last change of a port (R153, R155 to R158; log 24). -/
def stampPort (p : Fin 16) (s : State) : State :=
  raiseFlag flagPortChange
    (updSwitch (fun w => { w with lastPort := p })
      (updPort p (fun x => { x with changed := s.time.now, changedQuality := s.time.state }) s))

/-- The known admin state of a port becomes `k`; a change is stamped and followed by the robot (R155, R157, R122). -/
def setKnown (p : Fin 16) (k : Known) (s : State) : State :=
  if (s.switch.ports[p]).known = k then s
  else followPort p (stampPort p (updPort p (fun x => { x with known := k }) s))

/-! ### Link and flapping (R158, R159) -/

/-- A flap window lies behind a counted loss: there is none, or its end was reached before the present tick. An end
reached in this tick falls together with the loss, which, taken before FLAP_WINDOW_END, counts in the old window (R159;
DEDUCED, log 46). -/
def windowOver (t : TimeUnit) (p : Port) : Bool :=
  match p.flapEnd with
  | some d => reached d (t.now - t.advance)
  | none => true

/-- A port record after a counted loss, before any quarantine: a new window, or one more loss in the old (R159). -/
def countFlap (t : TimeUnit) (windowS : Nat) (p : Port) : Port :=
  if windowOver t p then
    { p with flaps := 1, flapEnd := some (t.now + ns (windowS * 1000 * Config.msNs)) }
  else { p with flaps := min (p.flaps + 1) 15 }

/-- A port is quarantined (R159). -/
def quarantine (p : Fin 16) (limit : Nat) (s : State) : State :=
  formDesired p
    (raiseFlag flagPortChange
      (append .portQuarantined (BitVec.ofNat 16 p.val) (BitVec.ofNat 16 limit)
        (BitVec.ofNat 16 (roleCode (s.switch.ports[p]).role))
        (updPort p (fun x => { x with quarantined := true, flapEnd := none, flaps := limit }) s)))

/-- A link loss is counted (R159). -/
def countLoss (p : Fin 16) (s : State) : State :=
  let r := s.switch.ports[p]
  if r.quarantined = false ∧ r.desired = true ∧ r.known = .enabled then
    let s1 := updPort p (countFlap s.time (portCfg s).flapS) s
    let limit := (portCfg s).flapLimit
    if limit ≠ 0 ∧ limit ≤ (s1.switch.ports[p]).flaps then quarantine p limit s1 else s1
  else s

/-- A reported link is taken; a change from UP to DOWN is a loss (R158). Where the change of link moves its robot's
context, PORT_LINK, and PORT_QUARANTINED where the loss quarantines the port, enter the event ring before ROBOT_STATE
(DESIGN CHOICE, log 42). -/
def takeLink (p : Fin 16) (up : Bool) (s : State) : State :=
  let old := (s.switch.ports[p]).link
  let x : Link := if up then .up else .down
  if old = x then s
  else
    let s1 := append .portLink (BitVec.ofNat 16 p.val) (BitVec.ofNat 16 (linkCode old)) (BitVec.ofNat 16 (linkCode x))
      (stampPort p (updPort p (fun r => { r with link := x }) s))
    let s2 := if old = .up then countLoss p s1 else s1
    followPort p s2

/-- A flap window end is reached (R159). -/
def flapWindow (p : Fin 16) (s : State) : State :=
  if due (s.switch.ports[p]).flapEnd s.time.now then updPort p (fun x => { x with flaps := 0, flapEnd := none }) s
  else s

/-! ### PORT_STATE messages (R155, R157; the bytes are those of 13.6) -/

/-- A message is taken when its bytes sum to 0, its port is below 16 and its codes are those of PORT_STATE (R157, R191). -/
def msgValid (m : PortMsg) : Bool :=
  m.b0 + m.b1 + m.b2 + m.b3 + m.b4 == 0 && m.b0 == 3 && decide (m.b2.toNat < 16) && (m.b3 &&& 0x7C#8) == 0

/-- The kind bit: REPLY when set (13.6). -/
def msgIsReply (m : PortMsg) : Bool := m.b3.getLsbD 7

/-- The port that a valid message names. -/
def msgPort (m : PortMsg) : Fin 16 := Fin.ofNat 16 m.b2.toNat

/-- The link and the admin state that a message reports, UP and ENABLED when true. -/
def msgUp (m : PortMsg) : Bool := m.b3.getLsbD 1
def msgEnabled (m : PortMsg) : Bool := m.b3.getLsbD 0

/-- The known admin state that a report gives. -/
def knownOf (enabled : Bool) : Known := if enabled then .enabled else .disabled

/-- An override: counted, reported, and corrected (R157). -/
def overridden (p : Fin 16) (reported desired : Bool) (s : State) : State :=
  let s1 := append .portOverridden (BitVec.ofNat 16 p.val) (if reported then 1 else 0) (if desired then 1 else 0)
    (updPort p (fun x => { x with overrides := satInc8 x.overrides }) s)
  requestCommand p (setAction (s1.switch.ports[p]).desired) s1

/-- A NOTICE or a stray REPLY: link, then admin state, then the override test on the desired state the message found
(R157; log 14). A ROBOT_STATE that the admin state brings enters the event ring before PORT_OVERRIDDEN (DESIGN CHOICE,
log 42). -/
def takeNotice (m : PortMsg) (s : State) : State :=
  let p := msgPort m
  let found := (s.switch.ports[p]).desired
  let s1 := setKnown p (knownOf (msgEnabled m)) (takeLink p (msgUp m) s)
  if msgEnabled m = found then s1 else overridden p (msgEnabled m) found s1

/-- The causes of PORT_COMMAND_FAILED (R155, R156). -/
def causeTimeout : Word := 1
def causeContrary : Word := 2

/-- A PORT_COMMAND_FAILED event and the failures count (R155, R156; 11.3). -/
def commandFailed (c : Cmd) (cause : Word) (s : State) : State :=
  updSwitch (fun w => { w with failures := satInc w.failures })
    (append .portCommandFailed (BitVec.ofNat 16 c.port.val) cause (BitVec.ofNat 16 (actionCode c.action)) s)

/-- A REPLY that settles the outstanding command `o` (R155). At a contrary reply the ROBOT_STATE it brings enters the
event ring before PORT_COMMAND_FAILED (DESIGN CHOICE, log 42). -/
def settleCommand (o : Outstanding) (m : PortMsg) (s : State) : State :=
  let p := o.cmd.port
  let s1 := takeLink p (msgUp m) (updSwitch (fun w => { w with outstanding := none }) s)
  match o.cmd.action with
  | .ask =>
    let s2 := setKnown p (knownOf (msgEnabled m)) s1
    if (s2.switch.ports[p]).desired ≠ msgEnabled m ∧ hasQueued p s2 = false then
      requestCommand p (setAction (s2.switch.ports[p]).desired) s2
    else s2
  | a =>
    if setAction (msgEnabled m) = a then setKnown p (knownOf (msgEnabled m)) s1
    else commandFailed o.cmd causeContrary (setKnown p .unknown s1)

/-- A REPLY settles the outstanding command when sequence and port agree, else it is stray (R155). -/
def takeReply (m : PortMsg) (s : State) : State :=
  match s.switch.outstanding with
  | some o =>
    if o.seq = m.b1 ∧ o.cmd.port = msgPort m then settleCommand o m s
    else takeNotice m (updSwitch (fun w => { w with strays := satInc w.strays }) s)
  | none => takeNotice m (updSwitch (fun w => { w with strays := satInc w.strays }) s)

/-- A PORT_STATE message arrives: ignored without a count while no configuration is in force, discarded as a line
error, or taken by its kind (R157, R165, R186). -/
def receivePortState (m : PortMsg) (s : State) : State :=
  if isLive s then
    if msgValid m then (if msgIsReply m then takeReply m s else takeNotice m s)
    else updSwitch (fun w => { w with lineErrors := satInc w.lineErrors }) s
  else s

/-! ### Sending (R154, R156) -/

/-- The check byte that makes a message sum to 0 (R191). -/
def withCheck (bs : List Byte) : List Byte := bs ++ [0 - bs.foldl (· + ·) 0]

/-- The bytes of a command (13.6). -/
def commandBytes (c : Cmd) (seq : Byte) : List Byte :=
  withCheck
    (match c.action with
     | .ask => [2, seq, BitVec.ofNat 8 c.port.val, 0]
     | a => [1, seq, BitVec.ofNat 8 c.port.val, BitVec.ofNat 8 (actionCode a)])

/-- The head command is sent when none is outstanding, in ACTIVE or RELOADING (R154; not in a RELOADING entered from
CONFIG_FAULT, R186). The commands sent count rises here, where the sending begins, not with the last byte: R154 does not say
which (DESIGN CHOICE, log 66). -/
def sendCommand (s : State) : State :=
  match s.switch.outstanding, s.switch.queue with
  | none, c :: cs =>
    if isLive s then
      updSwitch (fun w =>
        { w with queue := cs, outstanding := some ⟨c, w.nextSeq, none⟩, nextSeq := w.nextSeq + 1, sent := satInc w.sent,
                 lastMessage := commandBytes c w.nextSeq }) s
    else s
  | _, _ => s

/-- The last byte of a command has been sent: the reply deadline is set (R154); the command was counted when its sending
began (log 66). -/
def sentCommand (s : State) : State :=
  match s.switch.outstanding with
  | some o =>
    if o.deadline.isNone then
      updSwitch (fun w => { w with outstanding := some { o with deadline := some (s.time.now + ns Config.replyNs) } }) s
    else s
  | none => s

/-- The outstanding command times out (R156). PORT_COMMAND_FAILED enters the event ring before the ROBOT_STATE that the
UNKNOWN state brings (DESIGN CHOICE, log 42). -/
def timeoutCommand (s : State) : State :=
  match s.switch.outstanding with
  | some o =>
    if due o.deadline s.time.now then
      let p := o.cmd.port
      let s1 := updPort p (fun x => { x with known := .unknown }) (updSwitch (fun w => { w with outstanding := none }) s)
      let s2 := followPort p (stampPort p (commandFailed o.cmd causeTimeout s1))
      if o.cmd.action = .ask ∨ hasQueued p s2 = true then s2 else requestCommand p .ask s2
    else s
  | none => s

/-! ### The PORT request (R160) -/

/-- The index of the PORT word among the request words. -/
def portWord : Fin 26 := 17

/-- The status of the PORT word (R175): the result, the desired state of the named port, the port number written. -/
def portStatus (x : ReqResult) (w : Word) (s : State) : Word :=
  fieldAt 12 (resultCode x)
    ||| flagAt 8 (decide (w.toNat % 256 < 16) && (s.switch.ports[Fin.ofNat 16 (w.toNat % 256)]).desired)
    ||| (w &&& 0x00FF)

/-- A PORT request ignored with a reason. -/
def ignorePort (reason w : Word) (s : State) : State :=
  let s1 := ignoreEvent portWord reason w s
  setStatus portWord (portStatus .ignored w s1) s1

/-- A PORT request taken: the record changes and the desired state is formed again. -/
def takePort (p : Fin 16) (f : Port → Port) (w : Word) (s : State) : State :=
  let s1 := formDesired p (updPort p f s)
  setStatus portWord (portStatus .taken w s1) s1

/-- RELEASE clears the quarantine and the flap state (R160). -/
def releasePort (x : Port) : Port := { x with quarantined := false, flaps := 0, flapEnd := none }

/-- The PORT request with written word `w` (R160). -/
def portRequest (w : Word) (s : State) : State :=
  if 16 ≤ w.toNat % 256 then ignorePort reasonBadValue w s
  else
    let p : Fin 16 := Fin.ofNat 16 (w.toNat % 256)
    match w.toNat / 256 with
    | 1 => takePort p (fun x => { x with hostDisabled := true }) w s
    | 2 => takePort p (fun x => { x with hostDisabled := false }) w s
    | 3 => if atLeast (effectiveLevel s) .adjust then takePort p releasePort w s else ignorePort reasonGrantLevel w s
    | _ => ignorePort reasonBadValue w s

/-! ### Frame admission (R161) -/

/-- Frame kinds (13.6). -/
def kindAnswer : Byte := 2
def kindVerdict : Byte := 3
def kindTime : Byte := 4

/-- The discard counts of steps 1 to 5 (R161). -/
inductive Discard where
  | inactive
  | untagged
  | badPort
  | foreignType
  | blocked
  deriving DecidableEq, Repr

/-- What the tests of R161 make of a frame. -/
inductive Admission where
  | discard (d : Discard)
  | misplaced (p : Fin 16) (second : Word)
  | answer (p : Fin 16) (r : Fin 8)
  | held (p : Fin 16) (x : HeldFor)
  deriving DecidableEq, Repr

/-- The test of kind and role (R161, step 6). -/
def judgeKind (p : Fin 16) (role : Role) (kind robot : Byte) : Admission :=
  match role with
  | .robot r =>
    if kind = kindAnswer then
      (if robot.toNat = r.val then .answer p r else .misplaced p (robot.setWidth 16))
    else .misplaced p (BitVec.ofNat 16 (roleCode role))
  | .camera c => if kind = kindVerdict then .held p (.verdict c) else .misplaced p (BitVec.ofNat 16 (roleCode role))
  | .hall => if kind = kindTime then .held p .time else .misplaced p (BitVec.ofNat 16 (roleCode role))
  | _ => .misplaced p (BitVec.ofNat 16 (roleCode role))

/-- The tests of R161 in their order; the first that fails settles the frame. -/
def judgeFrame (s : State) (bs : List Byte) : Admission :=
  if !isActive s then .discard .inactive
  else if bs.length < 16 || be16 bs 12 != (portCfg s).tagMarker || byteAt bs 15 != 0 then .discard .untagged
  else if 16 ≤ (byteAt bs 14).toNat then .discard .badPort
  else if be16 bs 16 ≠ (portCfg s).hallType then .discard .foreignType
  else
    let p : Fin 16 := Fin.ofNat 16 (byteAt bs 14).toNat
    let r := s.switch.ports[p]
    if r.quarantined || !r.desired then .discard .blocked
    else judgeKind p r.role (byteAt bs 18) (byteAt bs 19)

/-- A discard is counted in the switch status (R161). -/
def countDiscard (d : Discard) (w : SwitchUnit) : SwitchUnit :=
  match d with
  | .inactive => { w with inactive := satInc w.inactive }
  | .untagged => { w with untagged := satInc w.untagged }
  | .badPort => { w with badPort := satInc w.badPort }
  | .foreignType => { w with foreignType := satInc w.foreignType }
  | .blocked => { w with blocked := satInc w.blocked }

/-- A misplaced frame is counted and reported (R161, step 6). -/
def misplace (p : Fin 16) (kind : Byte) (second : Word) (s : State) : State :=
  append .frameMisplaced (BitVec.ofNat 16 p.val) (wordOf (BitVec.ofNat 8 p.val) kind) second
    (updPort p (fun x => { x with misplaced := satInc8 x.misplaced }) s)

/-- The stage of the frame in reception replaced. -/
def setStage (x : RxStage) (s : State) : State :=
  { s with field := { s.field with receiving := s.field.receiving.map fun r => { r with stage := x } } }

/-- The frame in reception is judged once (R161, R162). -/
def admitFrame (s : State) : State :=
  match s.field.receiving with
  | some rx =>
    if rx.stage = .arriving then
      (match judgeFrame s rx.bytes with
       | .discard d => setStage .discarded (updSwitch (countDiscard d) s)
       | .misplaced p second => setStage .discarded (misplace p (byteAt rx.bytes 18) second s)
       | .answer p r => setStage (.answer p r .arriving) s
       | .held p x => setStage (.held p x) s)
    else s
  | none => s

/-! ### Deadlines across a step (R163) and a new configuration (R165, R166) -/

/-- The Switch Supervisor's deadlines across a step. -/
def shiftSwitch (o : BitVec 64) (w : SwitchUnit) : SwitchUnit :=
  { w with outstanding := w.outstanding.map fun x => { x with deadline := shiftOpt o x.deadline }
           ports := mapAll (fun p => { p with flapEnd := shiftOpt o p.flapEnd }) w.ports }

/-- The roles of a configuration take effect and every desired state is formed, without commands (R165, R166). -/
def takeRoles (c : Settings) (s : State) : State :=
  updSwitch (fun w =>
    { w with ports := Vector.ofFn fun p =>
        let x := { w.ports[p] with role := c.ports.roles[p] }
        { x with desired := desiredState s.grant.isOpen x } }) s

/-- A PORT_SET with the desired state is requested for each port of a list. -/
def commandPorts (ps : List (Fin 16)) (s : State) : State :=
  ps.foldl (fun t p => requestCommand p (setAction (t.switch.ports[p]).desired) t) s

/-- The ports a new configuration commands: those whose desired state differs from the known one (R166) or changed
(R153; log 40). -/
def portsToCommand (old new : State) : List (Fin 16) :=
  allPorts.filter fun p =>
    (new.switch.ports[p]).known != knownOf (new.switch.ports[p]).desired
      || (new.switch.ports[p]).desired != (old.switch.ports[p]).desired

/-- The counts that an accepted RELOAD sets to 0 (R166). -/
def clearSwitchCounts (w : SwitchUnit) : SwitchUnit :=
  { w with
    ports := mapAll (fun p => { p with admitted := 0, overrides := 0, misplaced := 0, failed := 0 }) w.ports
    untagged := 0, badPort := 0, foreignType := 0, blocked := 0, inactive := 0, lineErrors := 0, strays := 0,
    sent := 0, failures := 0 }

/-- The Switch Supervisor when an accepted RELOAD takes effect (R166). -/
def reloadSwitch (c : Settings) (s : State) : State :=
  let s1 := takeRoles c (updSwitch clearSwitchCounts s)
  commandPorts (portsToCommand s s1) s1

/-- The Switch Supervisor at the first entry to ACTIVE (R165). -/
def firstSwitch (c : Settings) (s : State) : State := commandPorts allPorts (takeRoles c s)

end Sys2Proof.Machine
end

