-- ==== Sys2Proof/Machine/Grants.lean ====
section
/-! DEFINITION. The Grant Unit (08): the key switch, the GRANT request, lowering and closing, the lamp. -/

namespace Sys2Proof.Machine

open Sys2Proof

/-- The Grant Unit changed by `f`. -/
def updGrant (f : GrantUnit → GrantUnit) (s : State) : State := { s with grant := f s.grant }

/-- The line that carries a function under the record it has taken (10). -/
def sampledLine (s : State) (f : LineFn) : Option (Fin 16) :=
  allLines.find? fun l => match s.lines.line[l].record with | some rec => rec.fn == f | none => false

/-- The accepted level of the line that carries a function, inactive when there is none. A line whose record still waits
behind a pulse (R174) carries its old function, so its new one reads inactive till then (DESIGN CHOICE, log 43). -/
def levelWith (s : State) (f : LineFn) : Bool :=
  match sampledLine s f with
  | some l => s.lines.line[l].accepted
  | none => false

/-! ### The lamp (R148, R170) -/

/-- The lamp becomes `x`. A change to BLINKING starts a phase, active first; ON and OFF clear the toggle time (R170).
BLINKING asked for while BLINKING, as by a restart of 5 minutes or less (R148), keeps the running phase and toggle time
(DESIGN CHOICE, log 62). -/
def setLamp (x : Lamp) (s : State) : State :=
  if s.grant.lamp = x then s
  else
    let s1 := updGrant (fun g => { g with lamp := x }) s
    if x = .blinking then
      { s1 with lines := { s1.lines with lampLevel := true, toggleAt := some (s.time.now + ns Config.toggleNs) } }
    else { s1 with lines := { s1.lines with lampLevel := false, toggleAt := none } }

/-! ### GRANT_CHANGE (R147) -/

/-- The causes of a GRANT_CHANGE. -/
def causeRequest : Nat := 1
def causeKey : Nat := 2
def causeExpiry : Nat := 3
def causeReload : Nat := 4

/-- A change of the grant from granted level `old` is reported: the flag, the event, the grant record and the device
word at offset 5 rewritten, then the Reject Unit follows (R64, R147). -/
def grantChanged (old : Level) (cause : Nat) (s : State) : State :=
  policyFollowsGrant
    (rewriteAll [.grant, .summary]
      (append .grantChange 0 (fieldAt 8 (levelCode old) ||| fieldAt 0 (levelCode (grantedLevel s)))
        (fieldAt 8 cause ||| fieldAt 0 (levelCode (effectiveLevel s))) (raiseFlag flagGrantChange s)))

/-- The grant closes with a cause (R146). -/
def closeGrant (cause : Nat) (s : State) : State :=
  let old := grantedLevel s
  setLamp .off
    (serviceFollowsGrant
      (grantChanged old cause
        (updGrant (fun g =>
          { g with isOpen := false, requested := .none, granted := .none, expiry := none, blinkStart := none }) s)))

/-- The duration taken, 1 to 240 minutes (R143). -/
def clampMinutes (m : Byte) : Byte := if m = 0 then 1 else if 240 < m.toNat then 240 else m

/-- The nanoseconds of a number of minutes. -/
def minutesNs (m : Byte) : Nat := m.toNat * 60000 * Config.msNs

/-- The grant with the levels and times of a request taken now (R143). -/
def grantSet (level key : Level) (m : Byte) (now : Time) (q : TimeState) (g : GrantUnit) : GrantUnit :=
  { g with
    isOpen := true
    requested := level
    granted := minLevel level key
    duration := clampMinutes m
    openTime := now
    openQuality := q
    expiry := some (now + ns (minutesNs (clampMinutes m)))
    blinkStart := some (now + ns (minutesNs (clampMinutes m)) - ns Config.blinkSpanNs)
    opened := if g.isOpen then g.opened else satInc g.opened }

/-- The lamp of a grant just opened or restarted: ON if the blink start lies in the future (R148). -/
def openLamp (s : State) : Lamp := if due s.grant.blinkStart s.time.now then .blinking else .on

/-- A grant is opened or replaced (R143). -/
def openGrant (level : Level) (m : Byte) (s : State) : State :=
  let s1 := updGrant (grantSet level (keyLevel s) m s.time.now s.time.state) s
  let s2 := serviceFollowsGrant (grantChanged (grantedLevel s) causeRequest s1)
  setLamp (openLamp s2) s2

/-! ### The GRANT request (R142) -/

/-- The index of the GRANT word among the request words. -/
def grantWord : Fin 26 := 16

/-- The status of the GRANT word (R175). -/
def grantStatus (x : ReqResult) (s : State) : Word :=
  fieldAt 12 (resultCode x) ||| fieldAt 8 (levelCode (grantedLevel s))
    ||| (if s.grant.isOpen then s.grant.duration.setWidth 16 else 0)

/-- A GRANT request ignored with a reason. -/
def ignoreGrant (reason w : Word) (s : State) : State :=
  let s1 := ignoreEvent grantWord reason w (updGrant (fun g => { g with refused := satInc g.refused }) s)
  setStatus grantWord (grantStatus .ignored s1) s1

/-- The GRANT request with written word `w` (R142). -/
def grantRequest (w : Word) (s : State) : State :=
  if 4 ≤ w.toNat / 256 then ignoreGrant reasonBadValue w s
  else if w.toNat / 256 = 0 then
    let s1 := if s.grant.isOpen then closeGrant causeRequest s else s
    setStatus grantWord (grantStatus .taken s1) s1
  else if keyLevel s = .none then ignoreGrant reasonKeyPosition w s
  else
    let s1 := openGrant (levelOf (w.toNat / 256)) (loByte w) s
    setStatus grantWord (grantStatus .taken s1) s1

/-! ### The key switch (R140, R145) -/

/-- A new key position is acted on: the grant is closed or lowered (R145), with the cause given (R152). -/
def keyPosition (cause : Nat) (s : State) : State :=
  if s.grant.isOpen then
    let s1 := updGrant (fun g => { g with keyActions := satInc g.keyActions }) s
    if keyLevel s = .none then closeGrant cause s1
    else if atLeast (keyLevel s) s.grant.granted then s
    else grantChanged (grantedLevel s) cause (updGrant (fun g => { g with granted := keyLevel s }) s1)
  else s

/-- A pair settles and the key position is formed from it (R140). -/
def settlePair (a b : Bool) (cause : Nat) (s : State) : State :=
  let old := keyLevel s
  let s1 := updGrant (fun g => { g with settledA := a, settledB := b }) s
  let s2 := if a && b then
      append .keyInvalid 0 (BitVec.ofNat 16 (levelCode old)) 0
        (updGrant (fun g => { g with keyInvalids := satInc g.keyInvalids }) s1)
    else s1
  keyPosition cause s2

/-- A change of level on a key line: the candidate pair and a new debounce (R140). -/
def keyChange (s : State) : State :=
  updGrant (fun g =>
    { g with candA := levelWith s .keyA, candB := levelWith s .keyB,
             debounceEnd := some (s.time.now + ns Config.keyDebounceNs) }) s

/-- The key debounce ends (R140). -/
def keyDebounced (s : State) : State :=
  if due s.grant.debounceEnd s.time.now then
    let s1 := updGrant (fun g => { g with debounceEnd := none }) s
    if s.grant.candA = s.grant.settledA ∧ s.grant.candB = s.grant.settledB then s1
    else settlePair s.grant.candA s.grant.candB causeKey s1
  else s

/-- Both pairs are taken at once from the levels of the key lines (R141, R152). -/
def takePairs (cause : Nat) (s : State) : State :=
  let a := levelWith s .keyA
  let b := levelWith s .keyB
  settlePair a b cause (updGrant (fun g => { g with candA := a, candB := b, debounceEnd := none }) s)

/-! ### Deadlines (R146, R148, R149) -/

/-- Local time reaches the expiry (R146). -/
def expireGrant (s : State) : State :=
  if s.grant.isOpen && due s.grant.expiry s.time.now then
    closeGrant causeExpiry (updGrant (fun g => { g with expiries := satInc g.expiries }) s)
  else s

/-- Local time reaches the blink start (R148). -/
def startBlinking (s : State) : State :=
  if s.grant.isOpen && due s.grant.blinkStart s.time.now then setLamp .blinking s else s

/-- The Grant Unit's deadlines across a step (R149). -/
def shiftGrant (o : BitVec 64) (g : GrantUnit) : GrantUnit :=
  { g with debounceEnd := shiftOpt o g.debounceEnd, expiry := shiftOpt o g.expiry, blinkStart := shiftOpt o g.blinkStart }

end Sys2Proof.Machine
end

