-- ==== Sys2Proof/Machine/Lines.lean ====
section
/-! DEFINITION. The Line Unit (10): sampled lines and their debounce, driven lines, the cycle pulse, the blinking lamp,
the GENERAL_OUT request, and how lines take their records. -/

namespace Sys2Proof.Machine

open Sys2Proof

/-- The Line Unit changed by `f`. -/
def updLines (f : LineUnit → LineUnit) (s : State) : State := { s with lines := f s.lines }

/-- The level that a pin shows under a record's polarity (R167). -/
def activeAt (rec : LineCfg) (pin : Bool) : Bool := xor pin rec.activeLow

/-! ### Delivery (R168) -/

/-- An accepted change is delivered to the block that owns the line. -/
def deliver (f : LineFn) (level : Bool) (s : State) : State :=
  match f with
  | .encoderA | .encoderB => encoderEdge (levelWith s .encoderA) (levelWith s .encoderB) s
  | .ejectConfirm => if level then confirmEdge s else s
  | .keyA | .keyB => keyChange s
  | _ => s

/-- A level becomes the accepted level of a line, with no debounce in progress. -/
def acceptLevel (l : Fin 16) (level : Bool) (s : State) : State :=
  updLine l (fun x => { x with accepted := level, candidate := level, debounceEnd := none }) s

/-- The key functions, which the Grant Unit debounces itself (08, Settings). -/
def isKeyFn : LineFn → Bool
  | .keyA | .keyB => true
  | _ => false

/-- A SAMPLED line's level changes at the pin (R168). Without a debounce it is delivered at once, so two encoder pins that
change in one moment are delivered one after the other, as two edges in the order of their commands (DESIGN CHOICE,
log 52). -/
def levelChange (l : Fin 16) (rec : LineCfg) (level : Bool) (s : State) : State :=
  if isKeyFn rec.fn || rec.debounceUs == 0 then
    let s1 := acceptLevel l level s
    if (s.lines.line[l]).accepted = level then s1 else deliver rec.fn level s1
  else
    updLine l (fun x =>
      { x with candidate := level, debounceEnd := some (s.time.now + ns (1000 * rec.debounceUs)) }) s

/-- The pin of a line takes a level. A RELEASED line and a DRIVEN one deliver nothing (R167). -/
def pinChange (l : Fin 16) (high : Bool) (s : State) : State :=
  if (s.lines.line[l]).pin = high then s
  else
    let s1 := updLine l (fun x => { x with pin := high }) s
    match (s.lines.line[l]).record with
    | some rec => if isInputFn rec.fn then levelChange l rec (activeAt rec high) s1 else s1
    | none => s1

/-- The pin of a key line takes a level; with no such line nothing changes (R141). -/
def keyPinChange (keyB : Bool) (high : Bool) (s : State) : State :=
  match sampledLine s (if keyB then .keyB else .keyA) with
  | some l => pinChange l high s
  | none => s

/-- The other encoder function. -/
def otherEncoder : LineFn → Option LineFn
  | .encoderA => some .encoderB
  | .encoderB => some .encoderA
  | _ => none

/-- The other encoder line, when its debounce end is the same moment: the two changes form one edge (R24; DEDUCED,
log 38). -/
def partnerLine (s : State) (l : Fin 16) (rec : LineCfg) : Option (Fin 16) :=
  match otherEncoder rec.fn with
  | some f =>
    (match sampledLine s f with
     | some k => if (s.lines.line[k]).debounceEnd = (s.lines.line[l]).debounceEnd then some k else none
     | none => none)
  | none => none

/-- The debounce end of a line is cleared and its candidate accepted. -/
def acceptCandidate (l : Fin 16) (s : State) : State := acceptLevel l (s.lines.line[l]).candidate s

/-- A line's debounce end is reached (R168). -/
def debounced (l : Fin 16) (s : State) : State :=
  let x := s.lines.line[l]
  if due x.debounceEnd s.time.now then
    match x.record with
    | some rec =>
      let s1 := acceptCandidate l s
      (match partnerLine s l rec with
       | some k =>
         let y := s.lines.line[k]
         let s2 := acceptCandidate k s1
         if x.candidate = x.accepted ∧ y.candidate = y.accepted then s2 else deliver rec.fn x.candidate s2
       | none => if x.candidate = x.accepted then s1 else deliver rec.fn x.candidate s1)
    | none => s
  else s

/-! ### Records (R167, R174) -/

/-- A line takes a record: its accepted level is taken at once from the pin, with no debounce. -/
def freshLine (rec : LineCfg) (x : Line) : Line :=
  { x with record := some rec, deferred := none, accepted := activeAt rec x.pin, candidate := activeAt rec x.pin,
           debounceEnd := none }

/-- A pulse is in progress on a line under its present record (R174). -/
def pulseOn (s : State) (x : Line) : Bool :=
  match x.record with
  | some rec =>
    (match rec.fn with
     | .trigger c => s.cameras[c].pulseEnd.isSome
     | .ejector => s.reject.pulseEnd.isSome
     | .cyclePulse => s.lines.cyclePulseEnd.isSome
     | _ => false)
  | none => false

/-- A line meets the record of a new configuration: unchanged it keeps everything, during a pulse it waits, else it
starts afresh (R174). The two records are compared whole as parsed, so a change in a field alone that the line's function
does not use makes the record a changed one (DESIGN CHOICE, log 65). -/
def meetRecord (s : State) (rec : LineCfg) (x : Line) : Line :=
  if x.record = some rec then { x with deferred := none }
  else if pulseOn s x then { x with deferred := some rec }
  else freshLine rec x

/-- Every line meets its record of a configuration. -/
def takeRecords (c : Settings) (s : State) : State :=
  updLines (fun u => { u with line := Vector.ofFn fun l => meetRecord s c.lines[l] u.line[l] }) s

/-- The last encoder pair is taken from the accepted levels (R23). -/
def takeEncoderPair (s : State) : State := setPair (levelWith s .encoderA) (levelWith s .encoderB) s

/-- The levels that follow a line just sampled: the encoder pair and the key pairs (R168). Where a record waited behind
a pulse (R174), an encoder or key line reads inactive till then and a change of the grant carries the cause RELOAD
(DESIGN CHOICE, log 43). -/
def followSampled (f : LineFn) (s : State) : State :=
  if isEncoderFn f then takeEncoderPair s else if isKeyFn f then takePairs causeReload s else s

/-- A line whose pulse has ended takes the record that waited for it (R174). -/
def takeDeferredOne (l : Fin 16) (s : State) : State :=
  match (s.lines.line[l]).deferred with
  | some rec => if pulseOn s s.lines.line[l] then s else followSampled rec.fn (updLine l (freshLine rec) s)
  | none => s

/-- Every line whose pulse has ended takes its deferred record. -/
def takeDeferred (s : State) : State := allLines.foldl (fun t l => takeDeferredOne l t) s

/-! ### Pulses and the lamp (R47, R69, R169, R170) -/

/-- A camera's pulse end is reached (R47). -/
def endTrigger (c : Fin 4) (s : State) : State :=
  if due s.cameras[c].pulseEnd s.time.now then
    takeDeferred (updCamera c (fun m => { m with pulseEnd := none }) s)
  else s

/-- A camera's ready time is reached (R47). -/
def cameraIsReady (c : Fin 4) (s : State) : State :=
  if due s.cameras[c].readyAt s.time.now then updCamera c (fun m => { m with readyAt := none }) s else s

/-- The ejector pulse end is reached; entries fired in the pulse are no longer in one (R69). -/
def endEjector (s : State) : State :=
  if due s.reject.pulseEnd s.time.now then
    takeDeferred
      (updReject (fun j => { j with pulseEnd := none, list := j.list.map fun e => { e with inPulse := false } }) s)
  else s

/-- A CYCLE at time `t` starts or extends the cycle pulse (R169); without a CYCLE_PULSE line there is none (log 28). The
width is that of the configuration in force, also where its line still waits for that record (DESIGN CHOICE, log 59). -/
def startCyclePulse (t : Time) (s : State) : State :=
  match lineWith s .cyclePulse, s.cfg with
  | some l, some c => updLines (fun u => { u with cyclePulseEnd := some (t + ns (1000 * c.lines[l].pulseUs)) }) s
  | _, _ => s

/-- The cycle pulse end is reached (R169). -/
def endCyclePulse (s : State) : State :=
  if due s.lines.cyclePulseEnd s.time.now then takeDeferred (updLines (fun u => { u with cyclePulseEnd := none }) s)
  else s

/-- The next toggle time of a BLINKING lamp is reached (R170). -/
def toggleLamp (s : State) : State :=
  if due s.lines.toggleAt s.time.now ∧ s.grant.lamp = .blinking then
    updLines (fun u =>
      { u with lampLevel := !u.lampLevel, toggleAt := u.toggleAt.map (· + ns Config.toggleNs) }) s
  else s

/-! ### The GENERAL_OUT request (R171) -/

/-- The index of the GENERAL_OUT word among the request words. -/
def generalWord : Fin 26 := 23

/-- The held levels after a request with a mask and levels, the configured outputs given. -/
def heldAfter (configured mask levels held : Byte) : Byte :=
  (levels &&& (mask &&& configured)) ||| (held &&& ~~~(mask &&& configured))

/-- The status of the GENERAL_OUT word (R175). -/
def generalStatus (s : State) : Word := wordOf (configuredOutputs s) s.lines.held

/-- The GENERAL_OUT request with written word `w` (R171). -/
def generalRequest (w : Word) (s : State) : State :=
  let s1 := updLines (fun u => { u with held := heldAfter (configuredOutputs s) (hiByte w) (loByte w) u.held }) s
  setStatus generalWord (generalStatus s1) s1

/-! ### Deadlines across a step (R173) -/

/-- The Line Unit's deadlines across a step. -/
def shiftLines (o : BitVec 64) (u : LineUnit) : LineUnit :=
  { u with
    line := mapAll (fun x => { x with debounceEnd := shiftOpt o x.debounceEnd }) u.line
    cyclePulseEnd := shiftOpt o u.cyclePulseEnd
    toggleAt := shiftOpt o u.toggleAt }

end Sys2Proof.Machine
end

