-- ==== Sys2Proof/Machine/MachineTime.lean ====
section
/-! DEFINITION. The Time Unit (01): the clock, TIME frames, the step and the discipline, the time states, the cycle
schedule, and TIME_CAPTURE. -/

namespace Sys2Proof.Machine

open Sys2Proof

/-- The Time Unit changed by `f`. -/
def updTime (f : TimeUnit → TimeUnit) (s : State) : State := { s with time := f s.time }

/-- The time settings in force. -/
def timeCfg (s : State) : TimeCfg :=
  match s.cfg with
  | some c => c.time
  | none => ⟨0, 0, 0, 0, 0, 0, 0, 0, 0⟩

/-! ### The clock (R1) -/

/-- The fraction plus c, before a carry or a borrow. -/
def fracSum (t : TimeUnit) : Int := t.frac.toNat + t.corr

/-- The carry out of the fraction, or the borrow from the whole part. -/
def carryOf (i : Int) : Int := if 4294967296 ≤ i then 1 else if i < 0 then -1 else 0

/-- What a tick adds to the whole part: 8, and the carry or borrow of the fraction. -/
def tickAdvance (t : TimeUnit) : Time := BitVec.ofInt 64 (8 + carryOf (fracSum t))

/-- One tick. -/
def tick (t : TimeUnit) : TimeUnit :=
  { t with now := t.now + tickAdvance t, advance := tickAdvance t, frac := BitVec.ofInt 32 (fracSum t) }

/-! ### Time states (R13) -/

/-- A change of time state: the flag, and an event stamped with the new state (R13). -/
def setTimeState (x : TimeState) (s : State) : State :=
  if s.time.state = x then s
  else
    append .timeState 0 (BitVec.ofNat 16 (timeStateCode s.time.state)) (BitVec.ofNat 16 (timeStateCode x))
      (raiseFlag flagTimeState (updTime (fun t => { t with state := x }) s))

/-- The lock run replaced. -/
def setLockRun (n : Nat) (s : State) : State := updTime (fun t => { t with lockRun := n }) s

/-- A LOCKED state becomes LOCKING. -/
def dropLock (s : State) : State := if s.time.state = .locked then setTimeState .locking s else s

/-- The holdover timer runs out (R12). -/
def holdoverEnds (s : State) : State :=
  if (s.time.state = .locking ∨ s.time.state = .locked) ∧ due s.time.holdover s.time.now = true then
    setTimeState .holdover (updTime (fun t => { t with lockRun := 0, holdover := none }) s)
  else s

/-- The holdover timer restarted (R6, stage 5). -/
def restartHoldover (s : State) : State :=
  updTime (fun t => { t with holdover := some (t.now + ns ((timeCfg s).holdoverS * 1000 * Config.msNs)) }) s

/-! ### The cycle schedule (R14, R15) -/

/-- The period and the phase in nanoseconds. -/
def periodNs (g : TimeCfg) : Nat := 1000 * g.periodUs
def phaseNs (g : TimeCfg) : Nat := 1000 * g.phaseUs

/-- The number of aligned times no later than `t` (R14). -/
def alignedUpTo (g : TimeCfg) (t : Nat) : Nat := if t < phaseNs g then 0 else (t - phaseNs g) / periodNs g + 1

/-- The first aligned time later than `t` (R14). -/
def alignedAfter (g : TimeCfg) (t : Time) : Time :=
  BitVec.ofNat 64 (phaseNs g + alignedUpTo g t.toNat * periodNs g)

/-- The first aligned time no earlier than `t` (R16). -/
def alignedFrom (g : TimeCfg) (t : Time) : Time :=
  BitVec.ofNat 64
    (if t.toNat ≤ phaseNs g then phaseNs g
     else phaseNs g + ((t.toNat - phaseNs g + (periodNs g - 1)) / periodNs g) * periodNs g)

/-- The schedule is established at an entry to ACTIVE (R14). -/
def establishSchedule (s : State) : State :=
  updTime (fun t =>
    { t with nextCycle := some (alignedAfter (timeCfg s) t.now), lastCycle := none, schedStart := some t.now }) s

/-- The schedule stops: no next CYCLE time is held (R14). -/
def stopSchedule (s : State) : State :=
  updTime (fun t => { t with nextCycle := none, lastCycle := none, schedStart := none }) s

/-- A CYCLE event with number `n` and time `t` reaches the Line Unit and the Robot Exchange (R15, R124, R169). -/
def issueCycle (n : Word) (t : Time) (s : State) : State := robotsAtCycle n t (startCyclePulse t s)

/-- Local time reaches the next CYCLE time (R15). -/
def cycleDue (s : State) : State :=
  match s.time.nextCycle with
  | some t =>
    if reached t s.time.now then
      issueCycle s.time.cycleNumber t
        (updTime (fun u =>
          { u with cycleNumber := u.cycleNumber + 1, lastCycle := some t,
                   nextCycle := some (t + ns (periodNs (timeCfg s))) }) s)
    else s
  | none => s

/-! ### The step (R8, R9, R16, R17) -/

/-- Every deadline moves by −o, in every block that holds one (R9). -/
def shiftDeadlines (o : BitVec 64) (s : State) : State :=
  { s with time := { s.time with holdover := shiftOpt o s.time.holdover }
           track := shiftTrack o s.track
           cameras := mapAll (shiftCamera o) s.cameras
           reject := shiftReject o s.reject
           robots := mapAll (shiftRobot o) s.robots
           switch := shiftSwitch o s.switch
           grant := shiftGrant o s.grant
           lines := shiftLines o s.lines }

/-- The skip count: aligned times strictly between the last CYCLE time and the new next one (R17). -/
def skipCount (g : TimeCfg) (last next : Time) : Nat :=
  if next.toNat ≤ last.toNat then 0 else alignedUpTo g next.toNat - 1 - alignedUpTo g last.toNat

/-- The time that stands for the last CYCLE (R17). -/
def lastCycleOr (t : TimeUnit) : Time := t.lastCycle.getD (t.schedStart.getD t.now)

/-- The schedule re-aligned after a step, while it runs (R16, R17); `was` is local time before the step. After a second
step with no CYCLE between, the last CYCLE time (or the schedule start) is still read as it was held, and an interval
below 0 shows as 0 (DESIGN CHOICE, log 41). -/
def realign (was : Time) (s : State) : State :=
  match s.time.nextCycle with
  | some _ =>
    let g := timeCfg s
    let next := alignedFrom g (s.time.now + ns (500 * g.periodUs))
    let last := lastCycleOr s.time
    append .cycleSlip 0 (satWord (skipCount g last next)) (satWordInt ((span last was + span s.time.now next) / 1000))
      (updTime (fun t => { t with nextCycle := some next }) s)
  | none => s

/-- A step by `o` (R8): the clock, the event stamped LOCKING, the deadlines, the schedule. -/
def stepTime (o : BitVec 64) (s : State) : State :=
  let was := s.time.now
  let s1 := raiseFlag flagTimeStep
    (updTime (fun t => { t with now := t.now - o, integ := 0, corr := 0, saturated := false }) s)
  let d := signed32 o.toInt
  realign was
    (shiftDeadlines o (appendAt .timeStep 0 s1.time.now .locking (d.setWidth 16) ((d >>> 16).setWidth 16) s1))

/-! ### The discipline (R10, R11) -/

/-- The limit of the integral term under a gain. -/
def integLimit (gi : Nat) : Int := Config.corrLimit / 2 ^ gi

/-- The discipline computation on an offset (R10). -/
def discipline (g : TimeCfg) (o : Int) (t : TimeUnit) : TimeUnit :=
  let i := clampInt (-integLimit g.gi) (integLimit g.gi) (t.integ + o)
  let c0 := -(o * 2 ^ g.gp + i * 2 ^ g.gi)
  let c := clampInt (-Config.corrLimit) Config.corrLimit c0
  { t with integ := i, corr := c, saturated := decide (i ≠ t.integ + o) || decide (c ≠ c0) }

/-- The lock run after a discipline computation (R11). -/
def advanceLock (g : TimeCfg) (o : Int) (s : State) : State :=
  if o.natAbs ≤ g.lockWindow then
    let n := min 4 (s.time.lockRun + 1)
    let s1 := setLockRun n s
    if n = 4 ∧ s.time.state = .locking then setTimeState .locked s1 else s1
  else dropLock (setLockRun 0 s)

/-! ### TIME frames (R4 to R7); the body begins at byte 19 -/

/-- The offset of a frame: (A − P) − S (R5). -/
def offsetOf (g : TimeCfg) (stamp source : Time) : BitVec 64 := stamp - ns g.pathDelay - source

/-- The frame that ends FREE (R7). -/
def leaveFree (o : BitVec 64) (s : State) : State :=
  restartHoldover (setTimeState .locking (setLockRun 0 (if o = 0 then s else stepTime o s)))

/-- The stages of an accepted frame outside FREE (R6). -/
def steer (o : BitVec 64) (s : State) : State :=
  let g := timeCfg s
  let s1 := if s.time.state = .holdover then setTimeState .locking (setLockRun 0 s) else s
  if g.stepThreshold < o.toInt.natAbs then restartHoldover (dropLock (setLockRun 0 (stepTime o s1)))
  else restartHoldover (advanceLock g o.toInt (updTime (discipline g o.toInt) s1))

/-- What a TIME frame's body does, with the arrival stamp (R4, R6 stages 1 to 5). -/
def judgeTime (stamp : Time) (body : List Byte) (s : State) : State :=
  if body.length < 10 then updTime (fun t => { t with malformed := satInc t.malformed }) s
  else if be16 body 8 ≠ (timeCfg s).sourceId then updTime (fun t => { t with foreign := satInc t.foreign }) s
  else
    let o := offsetOf (timeCfg s) stamp (be64 body 0)
    let s1 := updTime (fun t => { t with accepted := satInc t.accepted, lastOffset := o }) s
    if s.time.state = .free then leaveFree o s1 else steer o s1

/-- A TIME frame's body at its acceptance; handled or discarded, the time mirror is rewritten (R4, R6, R20). -/
def acceptTime (stamp : Time) (body : List Byte) (s : State) : State :=
  rewriteMirror .time (judgeTime stamp body s)

/-! ### TIME_CAPTURE (R18) -/

/-- The index of the TIME_CAPTURE word among the request words. -/
def captureWord : Fin 26 := 25

/-- The TIME_CAPTURE request with written word `w`: the latch, the write-out, the status. -/
def captureRequest (w : Word) (s : State) : State :=
  let s1 := updTime (fun t => { t with capture := some ⟨t.now, t.state, loByte w⟩ }) s
  setStatus captureWord (fieldAt 8 1 ||| (w &&& 0x00FF)) (askCapture s1)

/-! ### A new configuration (R22) -/

/-- I clamped into the limit of the new gain; a change sets SATURATED (R22). -/
def clampIntegral (gi : Nat) (t : TimeUnit) : TimeUnit :=
  let i := clampInt (-integLimit gi) (integLimit gi) t.integ
  { t with integ := i, saturated := t.saturated || decide (i ≠ t.integ) }

end Sys2Proof.Machine
end

