-- ==== Sys2Proof/Machine/Frames.lean ====
section
/-! DEFINITION. Reception on the field port (R3, R129, R161, R162): arrival, the end of reception, and what becomes of
an admitted frame. -/

namespace Sys2Proof.Machine

open Sys2Proof

/-- A frame begins to arrive and is stamped with local time (R3). One frame arrives at a time (R162). -/
def arriveFrame (bytes : List Byte) (s : State) : State :=
  if s.field.receiving.isNone then
    { s with field := { s.field with receiving := some ⟨s.time.now, bytes, .arriving⟩ } }
  else s

/-- The frame in reception is gone. -/
def clearReceiving (s : State) : State := { s with field := { s.field with receiving := none } }

/-- The check of an admitted frame counted in its port record (R162). -/
def countChecked (p : Fin 16) (good : Bool) (s : State) : State :=
  updPort p (fun x => if good then { x with admitted := x.admitted + 1 } else { x with failed := satInc8 x.failed }) s

/-- An admitted VERDICT or TIME frame with a good check goes to its block, in ACTIVE (R3, R50, R60, R162). It was judged
once, at its admission, and goes where that sent it, whatever role its port has now; that the camera of a VERDICT is the
one of its admission, and that a frame ending in RELOADING goes to nobody, is read so (DEDUCED, log 16). -/
def handOn (x : HeldFor) (stamp : Time) (bytes : List Byte) (s : State) : State :=
  if isActive s then
    match x with
    | .verdict c => acceptVerdict c (bodyOf bytes) s
    | .time => acceptTime stamp (bodyOf bytes) s
  else s

/-- The end of reception of an ANSWER whose start was judged valid (R132, R133). -/
def endStarted (r : Fin 8) (good : Bool) (s : State) : State := if good then endAnswer r s else failAnswer r s

/-- A frame check is good: the four bytes are those of the bytes before them. A reception that ends early brings none
and counts as failed (R162, R191). -/
def goodCheck (check : Option (BitVec 32)) (bytes : List Byte) : Bool := check == some (Config.frameCheck bytes)

/-- The reception of a frame ends with its check good or failed (R162). A frame whose admission, or whose start as an
ANSWER, is not yet judged has not ended (log 9). An ANSWER abandoned by entry to OFFLINE (R122) is still counted at its
port (DESIGN CHOICE, log 45). -/
def endFrame (rx : Receiving) (good : Bool) (s : State) : State :=
  match rx.stage with
  | .arriving => s
  | .discarded => clearReceiving s
  | .held p x =>
    let s1 := countChecked p good (clearReceiving s)
    if good then handOn x rx.stamp rx.bytes s1 else s1
  | .answer _ _ .arriving => s
  | .answer p r .started => endStarted r good (countChecked p good (clearReceiving s))
  | .answer p _ _ => countChecked p good (clearReceiving s)

/-- The reception of the frame arriving ends with the check bytes that closed it, or early without them (R162). -/
def endReception (check : Option (BitVec 32)) (s : State) : State :=
  match s.field.receiving with
  | some rx => endFrame rx (goodCheck check rx.bytes) s
  | none => s

end Sys2Proof.Machine
end

