-- ==== Sys2Proof/Machine/Arbiter.lean ====
section
/-! DEFINITION. The memory side of the Access Path (05, 5.6 and 5.7): reads, the mirror and ring writer, the arbiter and
the slots of its agents, and the slot of an access released from a hold. -/

namespace Sys2Proof.Machine

open Sys2Proof

/-- The Access Path changed by `f`. -/
def updBus (f : Bus → Bus) (s : State) : State := { s with bus := f s.bus }

/-- The Settings Loader changed by `f`. -/
def updLoader (f : Loader → Loader) (s : State) : State := { s with loader := f s.loader }

/-! ### Reads toward memory (R86) -/

/-- The address an access reaches: in a window, that of the bank in the role as it stands (R86). -/
def reachedAddr (s : State) (a : Access) : Nat :=
  match a.fate with
  | .window input r base n k _ =>
    (match (if input then inBank s.robots[r] .hostIn else outBank s.robots[r] .host) with
     | some b => base + b.val * n + k
     | none => base + k)
  | _ => a.addr

/-- A read completed toward memory: the word the processor sees (R86). The manual does not say what a read with one byte
lane brings in the other: the lanes of a read are ignored and the whole word is brought (DESIGN CHOICE, log 44). -/
def performRead (a : Access) (s : State) : State :=
  updBus (fun b => { b with readData := s.sram.readWord (reachedAddr s a) }) s

/-- The processor has no access in flight. -/
def clearAccess (s : State) : State := updBus (fun b => { b with access := none }) s

/-! ### The mirror and ring writer (R101) -/

/-- Words at offsets of the control page, as addresses and data. -/
def onPage (s : State) (ws : List (Nat × Word)) : List (Nat × Word) := ws.map fun x => (pageBase s + x.1, x.2)

/-- The writes of the copies of safe images and limits (R185). -/
def copyWords (c : Settings) : List (Nat × Word) :=
  (allRobots.flatMap fun r => atOffsets (safeAddr c r) c.safe[r]) ++ atOffsets (regionBase c .limits none) c.limits

/-- The words of a write-out, with the values of its beginning. -/
def jobWords (s : State) (j : Job) : List (Nat × Word) :=
  match j with
  | .mirror m => onPage s (mirrorWords m s)
  | .capture => onPage s (captureWords s)
  | .event slot ws ix => onPage s (atOffsets (256 + 8 * slot) ws ++ [(224, BitVec.ofNat 16 ix)])
  | .outcome a ws ix => atOffsets a ws ++ onPage s [(208, BitVec.ofNat 16 ix)]
  | .readImage => []
  | .copies => match s.loader.accepted with | some c => copyWords c | none => []

/-- The writer has a word waiting (R99). -/
def writerWaiting (s : State) : Bool := s.writer.current.isSome || !s.writer.queue.isEmpty

/-- The write-out at the head of the list begins when none is in progress. -/
def beginJob (s : State) : State :=
  match s.writer.current, s.writer.queue with
  | none, j :: js => { s with writer := { queue := js, current := some ⟨j, jobWords s j⟩ } }
  | _, _ => s

/-- A write-out has ended (R78, R180, R185). -/
def endJob (j : Job) (s : State) : State :=
  let s1 : State := { s with writer := { s.writer with current := none } }
  match j with
  | .event _ _ ix => { s1 with notice := { s1.notice with shownIx := ix } }
  | .outcome _ _ ix => raiseFlag flagOutcomeWritten (updReject (fun x => { x with shownIx := ix }) s1)
  | .copies => updLoader (fun l => { l with copied := true }) s1
  | _ => s1

/-- The image in the loader is read to its end: all the words its length word names are there (R183), or that word is
below 27 or above 3,072, and no further word is read (DESIGN CHOICE, log 34). -/
def imageWhole (ws : List Word) : Bool :=
  match ws with
  | [] => false
  | n :: _ => badLength n.toNat || decide (n.toNat ≤ ws.length)

/-- One staged word is read; the reading ends with the image (R183, R187), or on a bad length word (DESIGN CHOICE,
log 34). -/
def readStaged (s : State) : State :=
  let s1 := updLoader (fun l =>
    { l with image := l.image ++ [s.sram.readWord (pageBase s + 1024 + l.image.length)] }) s
  if imageWhole s1.loader.image then endJob .readImage (updLoader (fun l => { l with reading := false }) s1) else s1

/-- One word of the write-out in progress. -/
def writeNext (w : Writing) (s : State) : State :=
  match w.left with
  | [] => endJob w.job s
  | [x] => endJob w.job (writeSram x.1 x.2 s)
  | x :: xs => { writeSram x.1 x.2 s with writer := { s.writer with current := some { w with left := xs } } }

/-- One slot of the mirror and ring writer (R101). -/
def writerSlot (s : State) : State :=
  let s1 := beginJob s
  match s1.writer.current with
  | some w => if w.job = .readImage then readStaged s1 else writeNext w s1
  | none => s1

/-! ### The arbiter (R99) -/

/-- The requesters of the SRAM port. -/
inductive Requester where
  | reader
  | deposit
  | engine
  | writer
  | processor
  deriving DecidableEq, Repr

/-- The processor has an access waiting for a slot: a held one does not wait (R99). -/
def processorWaiting (s : State) : Bool :=
  match s.bus.access with
  | some a => !a.held
  | none => false

/-- An agent has a word waiting. -/
def agentWaiting (s : State) : Requester → Bool
  | .reader => readerWaiting s
  | .deposit => (depositor s).isSome
  | .engine => engineWaiting s
  | .writer => writerWaiting s
  | .processor => false

/-- The wait count of an agent. -/
def waitOf (w : Waits) : Requester → Nat
  | .reader => w.reader
  | .deposit => w.deposit
  | .engine => w.engine
  | .writer => w.writer
  | .processor => 0

/-- The internal agents in the arbiter's order. -/
def agents : List Requester := [.reader, .deposit, .engine, .writer]

/-- The requester granted a slot, the processor waiting or not (R99). -/
def arbiter (proc : Bool) (s : State) : Option Requester :=
  match agents.find? fun g => agentWaiting s g && decide (4 ≤ waitOf s.bus.waits g) with
  | some g => some g
  | none => if proc then some .processor else agents.find? (agentWaiting s)

/-- The wait count of an agent after a grant. -/
def nextWait (s : State) (granted : Requester) (g : Requester) : Nat :=
  if g = granted || !agentWaiting s g then 0
  else if granted = .processor then waitOf s.bus.waits g + 1
  else waitOf s.bus.waits g

/-- The wait counts after a grant. -/
def granting (g : Requester) (s : State) : State :=
  updBus (fun b =>
    { b with waits := ⟨nextWait s g .reader, nextWait s g .deposit, nextWait s g .engine, nextWait s g .writer⟩ }) s

/-- The slot of an internal agent. -/
def agentSlot (g : Requester) (s : State) : State :=
  match g with
  | .reader => readerSlot s
  | .deposit => depositSlot s
  | .engine => engineSlot s
  | .writer => writerSlot s
  | .processor => s

/-- A slot granted to an agent (R99). -/
def agentTurn (g : Requester) (s : State) : State := agentSlot g (granting g s)

/-- An agent that has waited through four processor accesses takes its slot ahead of the processor (R99). -/
def slotIfLate (s : State) (g : Requester) : State :=
  if agentWaiting s g && decide (4 ≤ waitOf s.bus.waits g) then agentTurn g s else s

/-- The slot granted to an access released from a hold: the agents whose turn stands before it take theirs, then it is
the processor's, and the wait counts count it (R87, R99; log 35). -/
def releasedSlot (s : State) : State := granting .processor (agents.foldl slotIfLate s)

end Sys2Proof.Machine
end

