-- ==== Sys2Proof/Machine/Configuration.lean ====
section
/-! DEFINITION. The Settings Loader (12): start-up, CONFIG_FAULT, RELOADING and its end, the entry to ACTIVE, STORING,
and the full reset. -/

namespace Sys2Proof.Machine

open Sys2Proof

/-! ### Entering RELOADING (R139, R186, R187) -/

/-- The robot's answer, in reception or in deposit, is abandoned: FILLING becomes FREE and the state DUE (R139). -/
def abandonAnswer (b : Robot) : Robot :=
  match b.answer with
  | some _ => { dropAnswer b with answerState := .due }
  | none => b

/-- The field port at the entry to RELOADING: waiting frames dropped, answers abandoned (R139). -/
def fieldAtReload (f : FieldPort) : FieldPort :=
  { f with
    sendList := []
    deposits := []
    receiving := f.receiving.map fun x =>
      match x.stage with
      | .answer p r _ => { x with stage := .answer p r .abandoned }
      | _ => x }

/-- The device state becomes RELOADING, which the device word is to show, and the staged image is to be read (R44, R95,
R139, R186, R187). R187 gives the reading the writer's place in the arbiter's order and no place among the write-outs: it is
one entry at the end of the writer's list, not interrupted once begun (DESIGN CHOICE, log 56). -/
def startReload (store : Bool) (s : State) : State :=
  let s1 := stopSchedule
    (updBus (fun b => { b with device := .reloading, reloadRefusals := 0, reloadRecord := none })
      (updTrack (fun t => { t with edgeNoted := false }) s))
  enqueue .readImage
    (ask .device
      { s1 with robots := mapAll abandonAnswer s1.robots
                field := fieldAtReload s1.field
                loader := { image := [], reading := true, copying := false, copied := false, storeAfter := store,
                            accepted := none } })

/-- The watched CONTROL word in CONFIG_FAULT: codes 2 and 3 are taken, any other is ignored (R97, R186). -/
def watchedControl (w : Word) (s : State) : State :=
  if w = 2 then startReload false s else if w = 3 then startReload true s else s

/-! ### The end of a check (R184, R185, R186, R188) -/

/-- The part enters or returns to CONFIG_FAULT with a fault (R186). -/
def enterFault (x : ImageFault) (s : State) : State :=
  updLoader (fun _ => Loader.reset)
    (updBus (fun b =>
      { b with device := .configFault, faultCode := BitVec.ofNat 4 x.code, faultItem := BitVec.ofNat 8 x.item }) s)

/-- The safe images and limits are to be copied under an accepted configuration (R185, R188), as one unbroken entry at the
end of the writer's list (DESIGN CHOICE, log 56). -/
def startCopies (c : Settings) (s : State) : State :=
  enqueue .copies
    (updLoader (fun l => { l with reading := false, copying := true, copied := false, accepted := some c }) s)

/-- A rejected RELOAD: ACTIVE resumes with the configuration in force (R14, R23, R44, R77, R188; log 21). -/
def rejectReload (x : ImageFault) (s : State) : State :=
  let s1 := updLoader (fun _ => Loader.reset) (updBus (fun b => { b with device := .active }) s)
  let s2 := append .configRejected 0 (BitVec.ofNat 16 x.code) (BitVec.ofNat 16 x.item) s1
  askAll changeMirrors (drainExit (uncountedTravel (takeEncoderPair (establishSchedule s2))))

/-! ### An accepted RELOAD takes effect (R188 and the chapters) -/

/-- A processor read held on a window is released and completed in a slot of its own at the HOST bank of the old roles
(R121; that the slot counts in the wait counts as one granted to the processor is the model's choice, log 35). -/
def releaseHeldRead (s : State) : State :=
  match s.bus.access with
  | some a => if a.held && !a.write then performRead a (clearAccess (releasedSlot s)) else s
  | none => s

/-- With a new control page base the write-outs not yet made are abandoned, so that the writer has no word waiting, and
both event indices become 0 (R22, R99, R182). -/
def moveNotices (c : Settings) (s : State) : State :=
  if pageBase s = c.page then s
  else
    setWaits (fun w => { w with writer := 0 })
      { s with writer := Writer.reset, notice := { s.notice with writeIx := 0, readIx := 0, shownIx := 0 } }

/-- The refusal count and record become those of the RELOADING interval (R95). -/
def takeRefusals (b : Bus) : Bus := { b with refusals := b.reloadRefusals, record := b.reloadRecord }

/-- The Line Unit under a new configuration; a general output only the new one configures starts inactive (R174). One that
only the old one configured keeps its held level (DESIGN CHOICE, log 60). -/
def reloadLines (c : Settings) (s : State) : State :=
  let old := configuredOutputs s
  takeRecords c (updLines (fun u => { u with held := u.held &&& old }) s)

/-- The Tracking Unit in the state of R42, but for the ring and the next sequence number (R44). -/
def clearTrack (t : TrackUnit) : TrackUnit :=
  { TrackUnit.reset with pairA := t.pairA, pairB := t.pairB, ring := t.ring, nextSeq := t.nextSeq, edgeNoted := t.edgeNoted }

/-- A camera at an accepted RELOAD: counts cleared; the trigger count is kept when configured under both (R60). -/
def reloadCamera (both : Bool) (m : Camera) : Camera :=
  { Camera.reset with triggers := if both then m.triggers else 0, pulseEnd := m.pulseEnd, readyAt := m.readyAt }

/-- Every camera at an accepted RELOAD from configuration `o` to `c`. -/
def reloadCameras (o c : Settings) (v : Vector Camera 4) : Vector Camera 4 :=
  Vector.ofFn fun i => reloadCamera (o.cameras[i].isSome && c.cameras[i].isSome) v[i]

/-- The Reject Unit at an accepted RELOAD: lists, indices and counts cleared; policy and pulse stand (R84). -/
def clearReject (j : RejectUnit) : RejectUnit := { RejectUnit.reset with policy := j.policy, pulseEnd := j.pulseEnd }

/-- The port of robot `r` is usable (R122). -/
def robotUsable (s : State) (r : Fin 8) : Bool :=
  allPorts.any fun p => (s.switch.ports[p]).role == .robot r && portUsable s.switch.ports[p]

/-- The context of a robot recomputed from its port (R138, R139). -/
def contextFromPort (s : State) (r : Fin 8) : Context :=
  if (robotCfg s r).isSome && robotUsable s r then .starting else .offline

/-- A robot at an accepted RELOAD: the full-reset state with the context recomputed; a change is reported (R121, R139;
log 21). -/
def reloadRobot (r : Fin 8) (s : State) : State :=
  let old := (s.robots[r]).context
  let new := contextFromPort s r
  let s1 := updRobot r (fun _ => { Robot.reset with context := new }) s
  if old = new then s1
  else append .robotState (BitVec.ofNat 16 r.val) (BitVec.ofNat 16 (contextCode old)) (BitVec.ofNat 16 (contextCode new)) s1

/-- Checks, frames and deposits stop; a frame still in transmission is ended (R121, R127, R139). -/
def stopExchange (s : State) : State :=
  { s with engine := Engine.reset, field := { endSending s.free s.field with sendList := [], deposits := [] } }

/-- The new configuration takes effect at the end of its check (R188; the order of log 21). The encoder pair and the key
pairs are taken from the lines as they stand (R152, R168). -/
def takeEffect (o c : Settings) (s : State) : State :=
  let s1 := releaseHeldRead (stopExchange s)
  let s2 := updBus takeRefusals (reloadLines c (moveNotices c s1))
  let s3 : State := { s2 with cfg := some c, time := clampIntegral c.time.gi s2.time }
  let s4 := updTrack clearTrack (resetLine c.track.len 2 s3)
  let s5 : State := { s4 with cameras := reloadCameras o c s4.cameras }
  let s6 := setPolicy .normal 3 (updReject clearReject s5)
  let s7 := takePairs causeReload (takeEncoderPair (reloadSwitch c s6))
  startCopies c (allRobots.foldl (fun t r => reloadRobot r t) s7)

/-- The check of an image ends with a verdict (R185, R186, R188). -/
def endCheck (ws : List Word) (s : State) : State :=
  match checkImage ws with
  | some x => if isReloading s then rejectReload x s else enterFault x s
  | none =>
    match s.cfg with
    | some o => takeEffect o (settingsOf ws) s
    | none => startCopies (settingsOf ws) (updLoader (fun l => { l with image := ws }) s)

/-- The length word of the settings memory, and its image (R183). -/
def storedImage (s : State) : List Word :=
  if badLength (s.settingsMem.readWord 0).toNat then [s.settingsMem.readWord 0]
  else s.settingsMem.readWords 0 (s.settingsMem.readWord 0).toNat

/-- The Settings Loader finishes reading and checking an image: from the settings memory in LOADING, where `answers`
says whether the memory answered, and from the staging area in RELOADING (R184; log 34). -/
def imageCheckEnd (answers : Bool) (s : State) : State :=
  match s.bus.device with
  | .loading =>
    if s.loader.copying then s else if answers then endCheck (storedImage s) s else enterFault ⟨1, 0⟩ s
  | .reloading => if s.loader.copying || s.loader.reading then s else endCheck s.loader.image s
  | _ => s

/-! ### The entry to ACTIVE (R185, R188) -/

/-- The status a request word starts with (R175). -/
def startingStatus (s : State) (i : Fin 26) : Word :=
  match i.val with
  | 16 => grantStatus .ignored s
  | 17 => portStatus .ignored 0 s
  | 18 => fieldAt 0 (policyCode s.reject.policy)
  | 19 => s.track.markLatch
  | 21 => BitVec.ofNat 16 s.reject.readIx
  | 22 => BitVec.ofNat 16 s.notice.readIx
  | 23 => generalStatus s
  | 25 => s.notice.status[i]
  | _ => 0

/-- Every request word takes its starting status; TIME_CAPTURE keeps its own (R175). -/
def startStatuses (s : State) : State :=
  { s with notice := { s.notice with status := Vector.ofFn fun i => startingStatus s i } }

/-- What the blocks do at the first entry to ACTIVE since the full reset (R42, R138, R141, R165, R174). -/
def firstEntry (c : Settings) (s : State) : State :=
  let s1 : State := { s with cfg := some c }
  let s2 := refillRing c.track.len (firstSwitch c (takeRecords c s1))
  takePairs causeReload s2

/-- The device state becomes ACTIVE under configuration `c` (R14, R23, R185, R188, R189). -/
def becomeActive (c : Settings) (s : State) : State :=
  let s1 := updBus (fun b =>
    { b with device := .active, generation := c.generation, storing := s.loader.storeAfter }) s
  let s2 := updLoader (fun l =>
    { Loader.reset with image := if l.storeAfter then l.image else [] }) s1
  askAll entryMirrors
    (startStatuses (raiseFlag flagConfigDone (takeEncoderPair (establishSchedule s2))))

/-- The last word is copied and the device state becomes ACTIVE. -/
def activeEntry (s : State) : State :=
  match s.loader.accepted with
  | some c =>
    if s.loader.copied then becomeActive c (if s.cfg.isNone then firstEntry c s else s) else s
  | none => s

/-! ### STORING (R189) -/

/-- The writes of a store, in order: 0 into word 0, words 1 to length − 1, the length into word 0 (R189). -/
def storeWrites (ws : List Word) : List (Nat × Word) :=
  (0, 0) :: ((List.range ws.length).zip ws).drop 1 ++ [(0, ws.headD 0)]

/-- The settings memory after the first `n` writes of a store. -/
def storePartly (n : Nat) (ws : List Word) (m : Memory) : Memory :=
  ((storeWrites ws).take n).foldl (fun t x => t.writeWord x.1 x.2) m

/-- The settings memory after all writes of a store. -/
def storeAll (ws : List Word) (m : Memory) : Memory := storePartly (ws.length + 1) ws m

/-- STORING ends (R189). -/
def endStoring (s : State) : State :=
  updLoader (fun _ => Loader.reset) (updBus (fun b => { b with storing := false }) s)

/-- The store completed: every word written and read back equal (R189). -/
def storeComplete (s : State) : State :=
  if s.bus.storing then endStoring { s with settingsMem := storeAll s.loader.image s.settingsMem } else s

/-- A store fault can happen to an image (log 20). -/
def storeFaultFits (ws : List Word) : StoreFault → Bool
  | .writeNoAnswer done => decide (done ≤ ws.length)
  | .readNoAnswer addr => decide (addr < ws.length)
  | .mismatch addr got => decide (addr < ws.length) && got != ws.getD addr 0

/-- The cause of STORE_FAILED and the address it names (R189). -/
def storeFaultEvent (ws : List Word) : StoreFault → Word × Word
  | .writeNoAnswer done => (1, BitVec.ofNat 16 (if done = ws.length then 0 else done))
  | .readNoAnswer addr => (1, BitVec.ofNat 16 addr)
  | .mismatch addr _ => (2, BitVec.ofNat 16 addr)

/-- The settings memory as a failed store leaves it (R189; log 20). -/
def storeFaultMemory (ws : List Word) (m : Memory) : StoreFault → Memory
  | .writeNoAnswer done => storePartly done ws m
  | .readNoAnswer _ => storeAll ws m
  | .mismatch addr got => (storeAll ws m).writeWord addr got

/-- The store failed (R189). -/
def storeFailed (f : StoreFault) (s : State) : State :=
  if s.bus.storing && storeFaultFits s.loader.image f then
    let e := storeFaultEvent s.loader.image f
    append .storeFailed 0 e.1 e.2
      (endStoring { s with settingsMem := storeFaultMemory s.loader.image s.settingsMem f })
  else s

/-! ### Full reset (R98, R185 and the reset rule of each chapter) -/

/-- The settings memory across a full reset: a store in progress has made some number of its writes (R189; log 11). -/
def settingsAfterReset (s : State) : Memory :=
  if s.bus.storing then
    storePartly (Config.freeStored s.free % (s.loader.image.length + 2)) s.loader.image s.settingsMem
  else s.settingsMem

/-- Every block in its full-reset state; SRAM, the settings memory and the levels of the pins stay. -/
def fullReset (s : State) : State :=
  { State.reset with
    pending := s.pending
    free := s.free + 1
    sram := s.sram
    settingsMem := settingsAfterReset s
    lines := LineUnit.reset (mapAll (·.pin) s.lines.line) }

end Sys2Proof.Machine
end

