-- ==== Sys2Proof/Machine/Requests.lean ====
section
/-! DEFINITION. The request words (R175, R176): what a full-word write to each of them does in ACTIVE, and the status it
leaves. -/

namespace Sys2Proof.Machine

open Sys2Proof

/-- The indices of the request words not named elsewhere: offset 16 + i. -/
def policyWord : Fin 26 := 18
def markLowWord : Fin 26 := 19
def markWord : Fin 26 := 20
def outcomeReadWord : Fin 26 := 21
def eventReadWord : Fin 26 := 22
def controlWord : Fin 26 := 24

/-! ### POLICY (R63) -/

/-- The status of the POLICY word. -/
def policyStatus (x : ReqResult) (s : State) : Word :=
  fieldAt 12 (resultCode x) ||| fieldAt 0 (policyCode s.reject.policy)

/-- A POLICY request ignored with a reason. -/
def ignorePolicy (reason w : Word) (s : State) : State :=
  let s1 := ignoreEvent policyWord reason w s
  setStatus policyWord (policyStatus .ignored s1) s1

/-- A POLICY request taken. -/
def takePolicy (p : Policy) (s : State) : State :=
  let s1 := setPolicy p 1 s
  setStatus policyWord (policyStatus .taken s1) s1

/-- The POLICY request with written word `w` (R63). -/
def policyRequest (w : Word) (s : State) : State :=
  if w = 0 then takePolicy .normal s
  else if w = 1 then takePolicy .rejectAll s
  else if w = 2 then
    (if grantedLevel s = .maintain then takePolicy .bypass s else ignorePolicy reasonGrantLevel w s)
  else ignorePolicy reasonBadValue w s

/-! ### MARK (R40) -/

/-- A write to MARK low replaces the latch. -/
def markLowRequest (w : Word) (s : State) : State :=
  setStatus markLowWord w (updTrack (fun t => { t with markLatch := w }) s)

/-- The sequence number that a MARK names: the written word above the latch. -/
def markNumber (s : State) (w : Word) : Seq := w ++ s.track.markLatch

/-- The MARK request with written word `w` (R40). -/
def markRequest (w : Word) (s : State) : State :=
  match markLookup (markNumber s w) s with
  | .inl reason =>
    setStatus markWord (fieldAt 12 (resultCode .ignored) ||| reason)
      (ignoreEvent markWord reason (lowWord (markNumber s w)) s)
  | .inr c => setStatus markWord (fieldAt 12 (resultCode .taken)) (forceRecord c s)

/-! ### Read indices (R80, R181) -/

/-- An index lies in the occupied span from `r` to `w` of a ring of `n` slots. -/
def inSpan (n r w x : Nat) : Bool := decide (x < n) && decide ((x + n - r) % n ≤ (w + n - r) % n)

/-- The OUTCOME_READ request with written word `w` (R80). -/
def outcomeReadRequest (w : Word) (s : State) : State :=
  let s1 :=
    if inSpan (outcomeSlots s) s.reject.readIx s.reject.writeIx w.toNat then
      updReject (fun j => { j with readIx := w.toNat }) s
    else ignoreEvent outcomeReadWord reasonOutOfSpan w s
  setStatus outcomeReadWord (BitVec.ofNat 16 s1.reject.readIx) s1

/-- The EVENT_READ request with written word `w` (R181). -/
def eventReadRequest (w : Word) (s : State) : State :=
  let s1 :=
    if inSpan 64 s.notice.readIx s.notice.writeIx w.toNat then
      { s with notice := { s.notice with readIx := w.toNat } }
    else ignoreEvent eventReadWord reasonOutOfSpan w s
  setStatus eventReadWord (BitVec.ofNat 16 s1.notice.readIx) s1

/-! ### CONTROL (R176) -/

/-- The status of the CONTROL word for a written word. -/
def controlStatus (x : ReqResult) (w : Word) : Word := fieldAt 8 (resultCode x) ||| (w &&& 0x00FF)

/-- A CONTROL request ignored with a reason. -/
def ignoreControl (reason w : Word) (s : State) : State :=
  setStatus controlWord (controlStatus .ignored w) (ignoreEvent controlWord reason w s)

/-- A LINE_RESET request (R43). -/
def lineResetRequest (s : State) : State :=
  if s.track.running then ignoreControl reasonLineRunning 1 s
  else setStatus controlWord (controlStatus .taken 1) (resetLine (trackCfg s).len 1 s)

/-- A RELOAD or RELOAD_AND_STORE request with code `w` (R187). -/
def reloadRequest (store : Bool) (w : Word) (s : State) : State :=
  if s.bus.storing then ignoreControl reasonStoring w s
  else if effectiveLevel s ≠ .maintain then ignoreControl reasonGrantLevel w s
  else setStatus controlWord (controlStatus .taken w) (startReload store s)

/-- A REFUSAL_REARM request: the record is emptied and rewritten as empty (R93). -/
def rearmRequest (s : State) : State :=
  setStatus controlWord (controlStatus .taken 4)
    (rewriteMirror .refusal (updBus (fun b => { b with record := none }) s))

/-- The CONTROL request with code `w` (R176). -/
def controlRequest (w : Word) (s : State) : State :=
  if w = 1 then lineResetRequest s
  else if w = 2 then reloadRequest false w s
  else if w = 3 then reloadRequest true w s
  else if w = 4 then rearmRequest s
  else ignoreControl reasonBadValue w s

/-! ### All request words -/

/-- What a full-word write of `w` to request word `i` does (R90, R175). -/
def requestAction (i : Fin 26) (w : Word) (s : State) : State :=
  if i.val < 8 then handoverRequest (Fin.ofNat 8 i.val) w s
  else if i.val < 16 then takeRequest (Fin.ofNat 8 i.val) w s
  else
    match i.val with
    | 16 => grantRequest w s
    | 17 => portRequest w s
    | 18 => policyRequest w s
    | 19 => markLowRequest w s
    | 20 => markRequest w s
    | 21 => outcomeReadRequest w s
    | 22 => eventReadRequest w s
    | 23 => generalRequest w s
    | 24 => controlRequest w s
    | _ => captureRequest w s

end Sys2Proof.Machine
end

