-- ==== Sys2Proof/Machine/AccessPath.lean ====
section
/-! DEFINITION. The Access Path (05): classification, class tests, refusals, holds, the completion of accesses and the
memory slot. -/

namespace Sys2Proof.Machine

open Sys2Proof

/-! ### Classification (R85, R90, R94 to R97) -/

/-- The region that holds an address. -/
def regionAtAddr (c : Settings) (a : Nat) : Option Region :=
  c.regions.find? fun g => decide (g.base ≤ a) && decide (a < g.base + g.len)

/-- The image lengths of a robot, 0 when it is not configured (log 25). -/
def outLen (c : Settings) (r : Fin 8) : Nat := match c.robots[r] with | some g => g.nOut | none => 0
def inLen (c : Settings) (r : Fin 8) : Nat := match c.robots[r] with | some g => g.nIn | none => 0
def motionLen (c : Settings) (r : Fin 8) : Nat := match c.robots[r] with | some g => g.motion | none => 0

/-- An access in robot `r`'s output window at offset `k` (R86, R88). -/
def outputFate (c : Settings) (r : Fin 8) (k : Nat) : Fate :=
  .window false r (regionBase c .outputBanks (some r)) (outLen c r) k (decide (motionLen c r ≤ k))

/-- A read that falls into a region (R85). -/
def regionRead (c : Settings) (g : Region) (a : Nat) : Fate :=
  match g.kind with
  | .outputWindow => if a - g.base < outLen c g.robot then outputFate c g.robot (a - g.base) else .pass
  | .inputWindow =>
    if a - g.base < inLen c g.robot then
      .window true g.robot (regionBase c .inputBanks (some g.robot)) (inLen c g.robot) (a - g.base) false
    else .pass
  | _ => .pass

/-- A write that falls into a region (R85, R88). -/
def regionWrite (c : Settings) (g : Region) (a : Nat) : Fate :=
  match g.kind with
  | .outputWindow => if a - g.base < outLen c g.robot then outputFate c g.robot (a - g.base) else .refuse .fixed
  | .limits => .classed false
  | .guarded => .classed g.maintain
  | _ => .refuse .fixed

/-- A write into the control page at an offset (R90, R96). -/
def pageWrite (storing : Bool) (k : Nat) (l : Lanes) : Fate :=
  if k = 0 then .flags
  else if k = 1 then .enables
  else if k = 2 then .globalEnable
  else if h : 16 ≤ k ∧ k < 42 then (if l = .both then .request ⟨k - 16, by omega⟩ else .refuse .partialLanes)
  else if k = 6 ∨ k = 7 ∨ (42 ≤ k ∧ k < 48) then .refuse .unassigned
  else if 1024 ≤ k then (if storing then .refuse .loading else .classed true)
  else .refuse .fixed

/-- An address lies in the control page. -/
def inPage (c : Settings) (a : Nat) : Bool := decide (c.page ≤ a) && decide (a < c.page + 4096)

/-- A read under a configuration. -/
def readFate (c : Settings) (a : Nat) : Fate :=
  if inPage c a then .pass else match regionAtAddr c a with | some g => regionRead c g a | none => .pass

/-- A write under a configuration, in ACTIVE. -/
def writeFate (c : Settings) (storing : Bool) (a : Nat) (l : Lanes) : Fate :=
  if inPage c a then pageWrite storing (a - c.page) l
  else match regionAtAddr c a with | some g => regionWrite c g a | none => .pass

/-- What the Access Path makes of an access when it is presented. -/
def classify (s : State) (write : Bool) (a : Nat) (l : Lanes) : Fate :=
  match s.bus.device, write with
  | .loading, true => .refuse .loading
  | .loading, false => .pass
  | .configFault, true => if a = Config.defaultPage + 40 then .watched else .pass
  | .configFault, false => .pass
  | .reloading, true => .refuse .loading
  | .reloading, false => match s.cfg with | some c => readFate c a | none => .pass
  | .active, w =>
    match s.cfg with
    | some c => if w then writeFate c s.bus.storing a l else readFate c a
    | none => .pass

/-! ### The class test and refusal (R88, R89, R92, R93) -/

/-- The test of an ADJUST class. -/
def adjustTest (s : State) : Option Cause := if atLeast (effectiveLevel s) .adjust then none else some .grantLevel

/-- The test of a MAINTAIN class. -/
def maintainTest (s : State) : Option Cause :=
  if effectiveLevel s = .maintain then none
  else if grantedLevel s = .maintain ∧ keyLevel s = .maintain then some .lineRunning
  else some .grantLevel

/-- The class test of a write: the cause of its refusal, if it is refused now. -/
def classTest (s : State) : Fate → Option Cause
  | .refuse c => some c
  | .classed true => maintainTest s
  | .classed false => adjustTest s
  | .window false _ _ _ _ true => adjustTest s
  | _ => none

/-- The refusal record of a write refused now (R93). -/
def refusedNow (s : State) (a : Access) (c : Cause) : Refused := ⟨a.addr, a.data, a.lanes, c, s.time.now, s.time.state⟩

/-- A refusal's effect on the count and the record, and on those of a RELOADING interval (R92, R95). -/
def countRefusal (x : Refused) (b : Bus) : Bus :=
  let r := b.device == .reloading
  { b with
    refusals := satInc b.refusals
    record := match b.record with | some y => some y | none => some x
    reloadRefusals := if r then satInc b.reloadRefusals else b.reloadRefusals
    reloadRecord := if r then (match b.reloadRecord with | some y => some y | none => some x) else b.reloadRecord }

/-- A refused write: completed without a slot (R92, R100). -/
def refuse (a : Access) (c : Cause) (s : State) : State :=
  raiseFlag flagRefused
    (updBus (fun b => { countRefusal (refusedNow s a c) b with access := none }) s)

/-! ### Completion toward memory (R86, R91, R100) -/

/-- The processor's word is stored in the lanes it gave. -/
def storeLanes (a : Access) (s : State) : State :=
  { s with sram := s.sram.writeLanes (reachedAddr s a) a.lanes a.data }

/-- A write to the notice flag word (R178). -/
def writeFlags (a : Access) (s : State) : State :=
  let f := clearedFlags a.lanes a.data s.notice.flags
  writeSram a.addr f { s with notice := { s.notice with flags := f } }

/-- A write to the enables and to the global enable (R179). -/
def writeEnables (a : Access) (s : State) : State :=
  let s1 := storeLanes a s
  { s1 with notice := { s1.notice with enables := s1.sram.readWord a.addr } }

def writeGlobal (a : Access) (s : State) : State :=
  let s1 := storeLanes a s
  { s1 with notice := { s1.notice with globalEnable := (s1.sram.readWord a.addr).getLsbD 0 } }

/-- A request: its owner acts, then the word takes the status (R91). -/
def writeRequest (i : Fin 26) (a : Access) (s : State) : State :=
  let s1 := requestAction i a.data s
  writeSram a.addr s1.notice.status[i] s1

/-- A write to the watched CONTROL word in CONFIG_FAULT (R97). -/
def writeWatched (a : Access) (s : State) : State :=
  let s1 := storeLanes a s
  if a.lanes = .both then watchedControl a.data s1 else s1

/-- A write completed toward memory. -/
def performWrite (a : Access) (s : State) : State :=
  match a.fate with
  | .flags => writeFlags a s
  | .enables => writeEnables a s
  | .globalEnable => writeGlobal a s
  | .request i => writeRequest i a s
  | .watched => writeWatched a s
  | .refuse _ => s
  | _ => storeLanes a s

/-- An access completed: no access is in flight any more. -/
def completeAccess (a : Access) (s : State) : State :=
  if a.write then performWrite a (clearAccess s) else performRead a (clearAccess s)

/-- The processor's access takes its slot. -/
def processorSlot (a : Access) (s : State) : State := completeAccess a (granting .processor s)

/-- The cause of the refusal of an access that is to be completed now: a read meets no test (R85, R88, R90, R96). -/
def refusalOf (a : Access) (s : State) : Option Cause := if a.write then classTest s a.fate else none

/-- The access whose turn it is: a write makes its class test at this moment and is refused without a slot, or the access
is completed in its slot (R85, R92, R100). -/
def finishAccess (a : Access) (s : State) : State :=
  match refusalOf a s with
  | some c => refuse a c s
  | none => processorSlot a s

/-- A slot that the processor does not use goes to the first agent waiting (R99). -/
def freeSlot (s : State) : State :=
  match arbiter false s with
  | some g => agentTurn g s
  | none => s

/-- The turn of the processor's access at a memory slot: a write refused needs no slot, so an agent takes it (R99). -/
def processorTurn (a : Access) (s : State) : State :=
  match refusalOf a s with
  | some c => freeSlot (refuse a c s)
  | none => processorSlot a s

/-- One memory slot (R99). -/
def memorySlotStep (s : State) : State :=
  match arbiter (processorWaiting s) s with
  | some .processor => (match s.bus.access with | some a => processorTurn a s | none => s)
  | some g => agentTurn g s
  | none => s

/-! ### The processor (R85, R87, R100) -/

/-- A window access meets a CHECK of its robot and is held (R87). -/
def mustHold (s : State) : Fate → Bool
  | .window false r _ _ _ _ => checking s.robots[r]
  | _ => false

/-- The access the processor presents. It waits, and WAIT is asserted, where it is held or the next slot is not the
processor's (R100). -/
def accessOf (s : State) (write : Bool) (addr : Nat) (l : Lanes) (w : Word) : Access :=
  let f := classify s write addr l
  { write := write, addr := addr, lanes := l, data := w, fate := f, held := mustHold s f,
    waited := mustHold s f || arbiter true s != some .processor }

/-- The WAIT line: asserted from the presentation of an access that could not be completed at once until it is completed
(R100). -/
def waitAsserted (s : State) : Bool :=
  match s.bus.access with
  | some a => a.waited
  | none => false

/-- The access is in flight. -/
def inFlight (a : Access) (s : State) : State := updBus (fun b => { b with access := some a }) s

/-- A write is refused at presentation: in LOADING and RELOADING (R94, R95, R100). In ACTIVE every refusal waits for the
moment at which the write would be completed (R85; for the refusals without a class test log 8). -/
def refusedAtOnce (write : Bool) (s : State) : Bool :=
  write && (s.bus.device == .loading || s.bus.device == .reloading)

/-- An access is presented: refused at once, or in flight, held or waiting for its slot. The processor presents none
while one is in flight (R85). -/
def presentAccess (write : Bool) (addr : Nat) (l : Lanes) (w : Word) (s : State) : State :=
  if s.bus.access.isSome then s
  else if refusedAtOnce write s then refuse (accessOf s write addr l w) .loading s
  else inFlight (accessOf s write addr l w) s

/-- A waiting write is completed or refused when the next slot is the processor's, else it goes on waiting. -/
def tryComplete (a : Access) (s : State) : State :=
  if arbiter true s = some .processor then finishAccess a s else s

/-- The write in flight is the one a command names. -/
def sameWrite (a : Access) (addr : Nat) (l : Lanes) (w : Word) : Bool :=
  a.write && a.addr == addr && decide (a.lanes = l) && a.data == w && !a.held

/-- A whole write of the processor: presented if none is in flight, then completed or refused as far as the arbiter
lets it (R100; log 8). -/
def processorWrite (addr : Nat) (l : Lanes) (w : Word) (s : State) : State :=
  let s1 := presentAccess true addr l w s
  match s1.bus.access with
  | some a => if sameWrite a addr l w then tryComplete a s1 else s1
  | none => s1

/-- A full-word write to the request word `i` of the control page in force (log 19). -/
def requestWrite (i : Fin 26) (w : Word) (s : State) : State := processorWrite (pageBase s + 16 + i.val) .both w s

/-! ### The release of a held access (R87, R112) -/

/-- A held access of robot `r`'s window is released: its class test is made now, and one that passes is completed in a slot
of its own (R85, R87, R99; log 35). -/
def releaseHeld (r : Fin 8) (s : State) : State :=
  match s.bus.access with
  | some a =>
    (match a.held, a.fate with
     | true, .window false q _ _ _ _ =>
       if q = r then
         (match refusalOf a s with
          | some c => refuse a c s
          | none => completeAccess a (releasedSlot s))
       else s
     | _, _ => s)
  | none => s

/-- The HANDOVER word is rewritten when its flags changed without a request (R113; log 26). -/
def rewriteHandover (r : Fin 8) (s : State) : State :=
  let s1 := refreshHandover r s
  if isLive s1 then ask (.request (handoverWord r)) s1 else s1

/-- A check completes (R112). -/
def completeCheck (s : State) : State :=
  match checkDone s with
  | some c => rewriteHandover c.robot (takePending c.robot (releaseHeld c.robot (finishCheck c s)))
  | none => s

end Sys2Proof.Machine
end

