-- ==== Sys2Proof/Machine/CommandsConfig.lean ====
section
/-! DEFINITION. The configuration and reset commands.
A command answers the next state with the write-outs its changes ask for (`settle`). -/

namespace Sys2Proof.Machine

open Sys2Proof

/-- FULL_RESET (R185): every block in its full-reset state, LOADING; a write in flight is lost (R98). -/
def execFullReset (s : State) : Host.Outcome State Fault Refusal := .next (fullReset s)

/-- IMAGE_CHECK_END (R184): the image read is accepted or given a fault code. -/
def execImageCheckEnd (answers : Bool) (s : State) : Host.Outcome State Fault Refusal :=
  .next (settle s (imageCheckEnd answers s))

/-- ACTIVE_ENTRY (R185): the copies are made and the device state becomes ACTIVE. -/
def execActiveEntry (s : State) : Host.Outcome State Fault Refusal := .next (settle s (activeEntry s))

/-- STORE_COMPLETE (R189): the whole image is written and read back equal. -/
def execStoreComplete (s : State) : Host.Outcome State Fault Refusal := .next (settle s (storeComplete s))

/-- STORE_FAILED (R189): the store stops with a cause and an address. -/
def execStoreFailed (f : StoreFault) (s : State) : Host.Outcome State Fault Refusal :=
  .next (settle s (storeFailed f s))

end Sys2Proof.Machine
end

