-- ==== Sys2Proof/Machine/CommandsProcessor.lean ====
section
/-! DEFINITION. The commands of the processor: accesses, the notice words and the requests, and the memory slot. -/

namespace Sys2Proof.Machine

open Sys2Proof

/-- PROCESSOR_ACCESS (R85): an access is presented and classified; it completes in a slot of its own. -/
def execProcessorAccess (write : Bool) (addr : BitVec 19) (lanes : Lanes) (data : Word) (s : State) :
    Host.Outcome State Fault Refusal :=
  .next (settle s (presentAccess write addr.toNat lanes data s))

/-- MEMORY_WRITE (R88): a processor write is completed toward memory after its class test, or refused. -/
def execMemoryWrite (addr : BitVec 19) (lanes : Lanes) (data : Word) (s : State) : Host.Outcome State Fault Refusal :=
  .next (settle s (processorWrite addr.toNat lanes data s))

/-- MEMORY_SLOT (R99): the arbiter grants one slot. -/
def execMemorySlot (s : State) : Host.Outcome State Fault Refusal := .next (settle s (memorySlotStep s))

/-- NOTICE_FLAGS_WRITE (R178): a write to offset 0. -/
def execNoticeFlagsWrite (lanes : Lanes) (data : Word) (s : State) : Host.Outcome State Fault Refusal :=
  .next (settle s (processorWrite (pageBase s) lanes data s))

/-- NOTICE_ENABLES_WRITE (R179): a write to offset 1. -/
def execNoticeEnablesWrite (lanes : Lanes) (data : Word) (s : State) : Host.Outcome State Fault Refusal :=
  .next (settle s (processorWrite (pageBase s + 1) lanes data s))

/-- GLOBAL_ENABLE_WRITE (R179): a write to offset 2. -/
def execGlobalEnableWrite (lanes : Lanes) (data : Word) (s : State) : Host.Outcome State Fault Refusal :=
  .next (settle s (processorWrite (pageBase s + 2) lanes data s))

/-- HANDOVER (R104): a write to the HANDOVER word of a robot. -/
def execHandover (r : Fin 8) (w : Word) (s : State) : Host.Outcome State Fault Refusal :=
  .next (settle s (requestWrite (handoverWord r) w s))

/-- TAKE (R135): a write to the TAKE word of a robot. -/
def execTake (r : Fin 8) (w : Word) (s : State) : Host.Outcome State Fault Refusal :=
  .next (settle s (requestWrite (takeWord r) w s))

/-- GRANT_OPEN (R143): a GRANT request at VIEW, ADJUST or MAINTAIN. -/
def execGrantOpen (level : Level) (minutes : Byte) (s : State) : Host.Outcome State Fault Refusal :=
  .next (settle s (requestWrite grantWord (wordOf (BitVec.ofNat 8 (levelCode level)) minutes) s))

/-- GRANT_CLOSE (R146): a GRANT request at level NONE; its duration byte is not judged (R142). -/
def execGrantClose (minutes : Byte) (s : State) : Host.Outcome State Fault Refusal :=
  .next (settle s (requestWrite grantWord (wordOf 0 minutes) s))

/-- PORT_DISABLE (R160): a PORT request with action 1. -/
def execPortDisable (p : Fin 16) (s : State) : Host.Outcome State Fault Refusal :=
  .next (settle s (requestWrite portWord (wordOf 1 (BitVec.ofNat 8 p.val)) s))

/-- PORT_ENABLE (R160): a PORT request with action 2. -/
def execPortEnable (p : Fin 16) (s : State) : Host.Outcome State Fault Refusal :=
  .next (settle s (requestWrite portWord (wordOf 2 (BitVec.ofNat 8 p.val)) s))

/-- PORT_RELEASE (R160): a PORT request with action 3. -/
def execPortRelease (p : Fin 16) (s : State) : Host.Outcome State Fault Refusal :=
  .next (settle s (requestWrite portWord (wordOf 3 (BitVec.ofNat 8 p.val)) s))

/-- POLICY_NORMAL (R63): a POLICY request with code 0. -/
def execPolicyNormal (s : State) : Host.Outcome State Fault Refusal := .next (settle s (requestWrite policyWord 0 s))

/-- POLICY_REJECT_ALL (R63): a POLICY request with code 1. -/
def execPolicyRejectAll (s : State) : Host.Outcome State Fault Refusal :=
  .next (settle s (requestWrite policyWord 1 s))

/-- POLICY_BYPASS (R63): a POLICY request with code 2. -/
def execPolicyBypass (s : State) : Host.Outcome State Fault Refusal := .next (settle s (requestWrite policyWord 2 s))

/-- MARK_LOW (R40): a write to MARK low. -/
def execMarkLow (w : Word) (s : State) : Host.Outcome State Fault Refusal :=
  .next (settle s (requestWrite markLowWord w s))

/-- MARK (R40): a write to MARK high. -/
def execMark (w : Word) (s : State) : Host.Outcome State Fault Refusal := .next (settle s (requestWrite markWord w s))

/-- OUTCOME_READ (R80): a new outcome read index is offered. -/
def execOutcomeRead (w : Word) (s : State) : Host.Outcome State Fault Refusal :=
  .next (settle s (requestWrite outcomeReadWord w s))

/-- EVENT_READ (R181): a new event read index is offered. -/
def execEventRead (w : Word) (s : State) : Host.Outcome State Fault Refusal :=
  .next (settle s (requestWrite eventReadWord w s))

/-- GENERAL_OUT (R171): the masked general outputs take levels. -/
def execGeneralOut (mask levels : Byte) (s : State) : Host.Outcome State Fault Refusal :=
  .next (settle s (requestWrite generalWord (wordOf mask levels) s))

/-- LINE_RESET (R43): CONTROL code 1. -/
def execLineReset (s : State) : Host.Outcome State Fault Refusal := .next (settle s (requestWrite controlWord 1 s))

/-- RELOAD (R187): CONTROL code 2. -/
def execReload (s : State) : Host.Outcome State Fault Refusal := .next (settle s (requestWrite controlWord 2 s))

/-- RELOAD_AND_STORE (R187): CONTROL code 3. -/
def execReloadAndStore (s : State) : Host.Outcome State Fault Refusal :=
  .next (settle s (requestWrite controlWord 3 s))

/-- REFUSAL_REARM (R93): CONTROL code 4. -/
def execRefusalRearm (s : State) : Host.Outcome State Fault Refusal := .next (settle s (requestWrite controlWord 4 s))

/-- FAULT_RELOAD (R186): a full-word write of code 2 to the watched CONTROL word at 7F028h. -/
def execFaultReload (s : State) : Host.Outcome State Fault Refusal :=
  .next (settle s (processorWrite (Config.defaultPage + 40) .both 2 s))

/-- FAULT_RELOAD_AND_STORE (R186): a full-word write of code 3 to the watched CONTROL word. -/
def execFaultReloadAndStore (s : State) : Host.Outcome State Fault Refusal :=
  .next (settle s (processorWrite (Config.defaultPage + 40) .both 3 s))

/-- TIME_CAPTURE (R18): a capture request. -/
def execTimeCapture (w : Word) (s : State) : Host.Outcome State Fault Refusal :=
  .next (settle s (requestWrite captureWord w s))

/-- The request word that a REQUEST_BAD_VALUE is written to (R176). -/
def badWord : BadTarget → Fin 26
  | .control => controlWord
  | .policy => policyWord
  | .grant => grantWord
  | .port => portWord

/-- REQUEST_BAD_VALUE (R176): a value that names none of its request's actions. -/
def execRequestBadValue (t : BadTarget) (w : Word) (s : State) : Host.Outcome State Fault Refusal :=
  .next (settle s (requestWrite (badWord t) w s))

end Sys2Proof.Machine
end

