-- ==== Sys2Proof/Machine/CommandsFrames.lean ====
section
/-! DEFINITION. The commands of the field port, the cycle and the check engine. -/

namespace Sys2Proof.Machine

open Sys2Proof

/-- FRAME_ARRIVAL_START (R3): a frame begins to arrive and is stamped. No mirror shows it. -/
def execFrameArrivalStart (bytes : List Byte) (s : State) : Host.Outcome State Fault Refusal :=
  .next (arriveFrame bytes s)

/-- FRAME_ADMISSION (R161): the frame arriving is admitted or discarded. -/
def execFrameAdmission (s : State) : Host.Outcome State Fault Refusal := .next (settle s (admitFrame s))

/-- FRAME_RECEPTION_END (R162): the frame is passed on or counted as failed; `check` is the frame check received, absent
where reception ends early. -/
def execFrameReceptionEnd (check : Option (BitVec 32)) (s : State) : Host.Outcome State Fault Refusal :=
  .next (settle s (endReception check s))

/-- ANSWER_START (R130): an admitted ANSWER is judged at its start. -/
def execAnswerStart (s : State) : Host.Outcome State Fault Refusal := .next (settle s (answerStarts s))

/-- ANSWER_COMPLETE (R132): a valid answer completes. -/
def execAnswerComplete (r : Fin 8) (s : State) : Host.Outcome State Fault Refusal :=
  .next (settle s (completeAnswer r s))

/-- CYCLE (R15): local time reaches the next CYCLE time. -/
def execCycle (s : State) : Host.Outcome State Fault Refusal := .next (settle s (cycleDue s))

/-- FRAME_TX_START (R126): the port begins the frame at the head of the send list. No mirror shows it. -/
def execFrameTxStart (s : State) : Host.Outcome State Fault Refusal := .next (startSending s)

/-- FRAME_TX_COMPLETE (R126): the frame in transmission is sent whole. -/
def execFrameTxComplete (s : State) : Host.Outcome State Fault Refusal := .next (settle s (completeSending s))

/-- CHECK_START (R108): the idle engine begins a check. No mirror shows it. -/
def execCheckStart (s : State) : Host.Outcome State Fault Refusal := .next (startCheck s)

/-- LIMIT_PASS_END (R109): the limit entries are judged. -/
def execLimitPassEnd (s : State) : Host.Outcome State Fault Refusal := .next (settle s (endLimitPass s))

/-- CHECK_COMPLETE (R112): CHECK becomes READY. -/
def execCheckComplete (s : State) : Host.Outcome State Fault Refusal := .next (settle s (completeCheck s))

end Sys2Proof.Machine
end

