-- ==== Sys2Proof/Machine/CommandsLines.lean ====
section
/-! DEFINITION. The commands of the cabinet lines, the key, the lamp and the deadlines. -/

namespace Sys2Proof.Machine

open Sys2Proof

/-- The stop timeout of a RUNNING line runs out (R27). -/
def stopTimeout (s : State) : State := if s.track.running && due s.track.stopAt s.time.now then lineStops s else s

/-- The first ARMED entry whose fire time is reached is fired (R69). -/
def fireDue (s : State) : State :=
  match s.reject.list.find? fun e => e.deadline.isNone && reached e.fire s.time.now with
  | some e => fire .fired e.seq s
  | none => s

/-- LINE_PIN_CHANGE (R168): a pin takes a level. -/
def execLinePinChange (l : Fin 16) (high : Bool) (s : State) : Host.Outcome State Fault Refusal :=
  .next (settle s (pinChange l high s))

/-- DEBOUNCE_END (R168): a debounce end is reached. -/
def execDebounceEnd (l : Fin 16) (s : State) : Host.Outcome State Fault Refusal := .next (settle s (debounced l s))

/-- STOP_TIMEOUT (R27): the stop timeout of a RUNNING line runs out. -/
def execStopTimeout (s : State) : Host.Outcome State Fault Refusal := .next (settle s (stopTimeout s))

/-- TRIGGER_PULSE_END (R47): a trigger pulse ends. -/
def execTriggerPulseEnd (c : Fin 4) (s : State) : Host.Outcome State Fault Refusal :=
  .next (settle s (endTrigger c s))

/-- CAMERA_READY (R47): a camera's ready time is reached. No mirror shows it. -/
def execCameraReady (c : Fin 4) (s : State) : Host.Outcome State Fault Refusal := .next (cameraIsReady c s)

/-- FIRE_TIME (R69): an ARMED entry's fire time is reached. -/
def execFireTime (s : State) : Host.Outcome State Fault Refusal := .next (settle s (fireDue s))

/-- EJECTOR_PULSE_END (R69): the ejector pulse ends. -/
def execEjectorPulseEnd (s : State) : Host.Outcome State Fault Refusal := .next (settle s (endEjector s))

/-- CONFIRM_DEADLINE (R72): an AWAITING entry's confirm deadline passes. -/
def execConfirmDeadline (s : State) : Host.Outcome State Fault Refusal := .next (settle s (confirmTimeout s))

/-- HOLDOVER_TIMEOUT (R12): the holdover timer runs out. -/
def execHoldoverTimeout (s : State) : Host.Outcome State Fault Refusal := .next (settle s (holdoverEnds s))

/-- KEY_LINE_CHANGE (R140): the pin of KEY_A or KEY_B takes a level. -/
def execKeyLineChange (keyB : Bool) (high : Bool) (s : State) : Host.Outcome State Fault Refusal :=
  .next (settle s (keyPinChange keyB high s))

/-- KEY_DEBOUNCE_END (R140): the key debounce ends. -/
def execKeyDebounceEnd (s : State) : Host.Outcome State Fault Refusal := .next (settle s (keyDebounced s))

/-- GRANT_EXPIRY (R146): an open grant reaches its expiry. -/
def execGrantExpiry (s : State) : Host.Outcome State Fault Refusal := .next (settle s (expireGrant s))

/-- BLINK_START (R148): an open grant reaches its blink start. -/
def execBlinkStart (s : State) : Host.Outcome State Fault Refusal := .next (settle s (startBlinking s))

/-- LAMP_TOGGLE (R170): a BLINKING lamp changes level. No mirror shows it (R172). -/
def execLampToggle (s : State) : Host.Outcome State Fault Refusal := .next (toggleLamp s)

/-- CYCLE_PULSE_END (R169): the cycle pulse ends. -/
def execCyclePulseEnd (s : State) : Host.Outcome State Fault Refusal := .next (settle s (endCyclePulse s))

end Sys2Proof.Machine
end

