-- ==== Sys2Proof/Machine/CommandsSwitch.lean ====
section
/-! DEFINITION. The commands of the switch control line, and the clock tick. -/

namespace Sys2Proof.Machine

open Sys2Proof

/-- COMMAND_SEND (R154): the head command is sent and becomes outstanding. -/
def execCommandSend (s : State) : Host.Outcome State Fault Refusal := .next (settle s (sendCommand s))

/-- COMMAND_SEND_COMPLETE (R154): the reply deadline is set. -/
def execCommandSendComplete (s : State) : Host.Outcome State Fault Refusal := .next (settle s (sentCommand s))

/-- PORT_STATE_REPLY (R155): a REPLY arrives. -/
def execPortStateReply (m : PortMsg) (s : State) : Host.Outcome State Fault Refusal :=
  .next (settle s (receivePortState m s))

/-- PORT_STATE_NOTICE (R157): a NOTICE or a stray REPLY arrives. -/
def execPortStateNotice (m : PortMsg) (s : State) : Host.Outcome State Fault Refusal :=
  .next (settle s (receivePortState m s))

/-- PORT_STATE_DISCARD (R157): a message with a bad check, port or codes arrives. -/
def execPortStateDiscard (m : PortMsg) (s : State) : Host.Outcome State Fault Refusal :=
  .next (settle s (receivePortState m s))

/-- REPLY_TIMEOUT (R156): the reply deadline passes. -/
def execReplyTimeout (s : State) : Host.Outcome State Fault Refusal := .next (settle s (timeoutCommand s))

/-- FLAP_WINDOW_END (R159): a flap window ends. -/
def execFlapWindowEnd (p : Fin 16) (s : State) : Host.Outcome State Fault Refusal := .next (settle s (flapWindow p s))

/-- CLOCK_TICK (R1): local time advances by one tick. No mirror shows local time. -/
def execClockTick (s : State) : Host.Outcome State Fault Refusal := .next { s with time := tick s.time }

end Sys2Proof.Machine
end

