-- ==== Sys2Proof/Machine/Dispatch.lean ====
section
/-! DEFINITION. The meaning of every command. -/

namespace Sys2Proof.Machine

open Sys2Proof

def exec (i : Instr) (s : State) : Host.Outcome State Fault Refusal :=
  match i with
  | .fullReset => Sys2Proof.Machine.execFullReset s
  | .imageCheckEnd answers => Sys2Proof.Machine.execImageCheckEnd answers s
  | .activeEntry => Sys2Proof.Machine.execActiveEntry s
  | .storeComplete => Sys2Proof.Machine.execStoreComplete s
  | .storeFailed f => Sys2Proof.Machine.execStoreFailed f s
  | .processorAccess write addr lanes data => Sys2Proof.Machine.execProcessorAccess write addr lanes data s
  | .memoryWrite addr lanes data => Sys2Proof.Machine.execMemoryWrite addr lanes data s
  | .memorySlot => Sys2Proof.Machine.execMemorySlot s
  | .noticeFlagsWrite lanes data => Sys2Proof.Machine.execNoticeFlagsWrite lanes data s
  | .noticeEnablesWrite lanes data => Sys2Proof.Machine.execNoticeEnablesWrite lanes data s
  | .globalEnableWrite lanes data => Sys2Proof.Machine.execGlobalEnableWrite lanes data s
  | .handover r w => Sys2Proof.Machine.execHandover r w s
  | .take r w => Sys2Proof.Machine.execTake r w s
  | .grantOpen level minutes => Sys2Proof.Machine.execGrantOpen level minutes s
  | .grantClose minutes => Sys2Proof.Machine.execGrantClose minutes s
  | .portDisable p => Sys2Proof.Machine.execPortDisable p s
  | .portEnable p => Sys2Proof.Machine.execPortEnable p s
  | .portRelease p => Sys2Proof.Machine.execPortRelease p s
  | .policyNormal => Sys2Proof.Machine.execPolicyNormal s
  | .policyRejectAll => Sys2Proof.Machine.execPolicyRejectAll s
  | .policyBypass => Sys2Proof.Machine.execPolicyBypass s
  | .markLow w => Sys2Proof.Machine.execMarkLow w s
  | .mark w => Sys2Proof.Machine.execMark w s
  | .outcomeRead w => Sys2Proof.Machine.execOutcomeRead w s
  | .eventRead w => Sys2Proof.Machine.execEventRead w s
  | .generalOut mask levels => Sys2Proof.Machine.execGeneralOut mask levels s
  | .lineReset => Sys2Proof.Machine.execLineReset s
  | .reload => Sys2Proof.Machine.execReload s
  | .reloadAndStore => Sys2Proof.Machine.execReloadAndStore s
  | .refusalRearm => Sys2Proof.Machine.execRefusalRearm s
  | .faultReload => Sys2Proof.Machine.execFaultReload s
  | .faultReloadAndStore => Sys2Proof.Machine.execFaultReloadAndStore s
  | .timeCapture w => Sys2Proof.Machine.execTimeCapture w s
  | .frameArrivalStart bytes => Sys2Proof.Machine.execFrameArrivalStart bytes s
  | .frameAdmission => Sys2Proof.Machine.execFrameAdmission s
  | .frameReceptionEnd check => Sys2Proof.Machine.execFrameReceptionEnd check s
  | .answerStart => Sys2Proof.Machine.execAnswerStart s
  | .answerComplete r => Sys2Proof.Machine.execAnswerComplete r s
  | .cycle => Sys2Proof.Machine.execCycle s
  | .frameTxStart => Sys2Proof.Machine.execFrameTxStart s
  | .frameTxComplete => Sys2Proof.Machine.execFrameTxComplete s
  | .checkStart => Sys2Proof.Machine.execCheckStart s
  | .limitPassEnd => Sys2Proof.Machine.execLimitPassEnd s
  | .checkComplete => Sys2Proof.Machine.execCheckComplete s
  | .linePinChange l high => Sys2Proof.Machine.execLinePinChange l high s
  | .debounceEnd l => Sys2Proof.Machine.execDebounceEnd l s
  | .stopTimeout => Sys2Proof.Machine.execStopTimeout s
  | .triggerPulseEnd c => Sys2Proof.Machine.execTriggerPulseEnd c s
  | .cameraReady c => Sys2Proof.Machine.execCameraReady c s
  | .fireTime => Sys2Proof.Machine.execFireTime s
  | .ejectorPulseEnd => Sys2Proof.Machine.execEjectorPulseEnd s
  | .confirmDeadline => Sys2Proof.Machine.execConfirmDeadline s
  | .holdoverTimeout => Sys2Proof.Machine.execHoldoverTimeout s
  | .keyLineChange keyB high => Sys2Proof.Machine.execKeyLineChange keyB high s
  | .keyDebounceEnd => Sys2Proof.Machine.execKeyDebounceEnd s
  | .grantExpiry => Sys2Proof.Machine.execGrantExpiry s
  | .blinkStart => Sys2Proof.Machine.execBlinkStart s
  | .lampToggle => Sys2Proof.Machine.execLampToggle s
  | .cyclePulseEnd => Sys2Proof.Machine.execCyclePulseEnd s
  | .commandSend => Sys2Proof.Machine.execCommandSend s
  | .commandSendComplete => Sys2Proof.Machine.execCommandSendComplete s
  | .portStateReply m => Sys2Proof.Machine.execPortStateReply m s
  | .portStateNotice m => Sys2Proof.Machine.execPortStateNotice m s
  | .portStateDiscard m => Sys2Proof.Machine.execPortStateDiscard m s
  | .replyTimeout => Sys2Proof.Machine.execReplyTimeout s
  | .flapWindowEnd p => Sys2Proof.Machine.execFlapWindowEnd p s
  | .clockTick => Sys2Proof.Machine.execClockTick s
  | .requestBadValue t w => Sys2Proof.Machine.execRequestBadValue t w s

end Sys2Proof.Machine
end

