-- ==== Sys2Proof/Safety.lean ====
section
/-! DEFINITION. What counts as a safe run: the laws of the device that the chapters state over the whole State. -/

namespace Sys2Proof

open Sys2Proof.Machine

/-- SRAM and the settings memory keep their canonical form. -/
def MemoriesWf (s : State) : Prop := s.sram.wf = true ∧ s.settingsMem.wf = true

/-- How many output banks of a robot hold a role. -/
def outCount (b : Robot) (x : OutRole) : Nat := (allBanks.filter fun i => b.out[i] == x).length

/-- How many input banks of a robot hold a role. -/
def inCount (b : Robot) (x : InRole) : Nat := (allBanks.filter fun i => b.inp[i] == x).length

/-- Law 1 (R103): exactly one output bank is HOST, and no two banks share a role other than FREE. -/
def LawOne (b : Robot) : Prop :=
  outCount b .host = 1 ∧ outCount b .check ≤ 1 ∧ outCount b .ready ≤ 1 ∧ outCount b .link ≤ 1

/-- Law 2 (07): exactly one input bank is HOST_IN, and no two banks share a role other than FREE. -/
def LawTwo (b : Robot) : Prop := inCount b .hostIn = 1 ∧ inCount b .fresh ≤ 1 ∧ inCount b .filling ≤ 1

/-- Law 4 (R144): the effective level never exceeds the key level. -/
def LawFour (s : State) : Prop := levelCode (effectiveLevel s) ≤ levelCode (keyLevel s)

/-- Law 6 (R31): the numbers in the ring run consecutively from the exit to position 0. -/
def LawSix (s : State) : Prop :=
  ∀ p (h : p + 1 < s.track.ring.length), s.track.ring[p].seq = s.track.ring[p + 1].seq + 1

/-- Law 8 (R64): the policy is BYPASS only while an open grant has granted level MAINTAIN. -/
def LawEight (s : State) : Prop := s.reject.policy = .bypass → grantedLevel s = .maintain

/-- A safe state: every law that speaks of State as it stands. -/
def Safe (s : State) : Prop :=
  MemoriesWf s ∧ (∀ r : Fin 8, LawOne s.robots[r] ∧ LawTwo s.robots[r]) ∧ LawEight s

end Sys2Proof
end

