-- ==== Sys2Proof/WellFormed.lean ====
section
/-! DEFINITION. Which commands are well formed: the operands are ones the row's rule names. Operands that a type
already bounds (robot, camera, port and line numbers, addresses of 19 bits) need no check. -/

namespace Sys2Proof

/-- The sum of the five bytes of a switch control line message, modulo 256; 0 when the check byte is right (R191). -/
def PortMsg.sum (m : PortMsg) : Byte := m.b0 + m.b1 + m.b2 + m.b3 + m.b4

/-- A PORT_STATE the part takes: right sum, byte 0 of 3, a port below 16, bits 6 to 2 of byte 3 clear (R157, R191). -/
def PortMsg.valid (m : PortMsg) : Bool :=
  m.sum == 0 && m.b0 == 3 && decide (m.b2.toNat < 16) && (m.b3 &&& 0x7C#8) == 0

/-- The kind bit of a PORT_STATE: REPLY when set, NOTICE when clear (13.6). -/
def PortMsg.isReply (m : PortMsg) : Bool := m.b3.getLsbD 7

/-- A word that names no action of its request word (R176; R63, R142, R160). -/
def BadTarget.bad : BadTarget → Word → Bool
  | .control, w => w == 0 || decide (5 ≤ w.toNat)
  | .policy, w => decide (3 ≤ w.toNat)
  | .grant, w => decide (4 ≤ w.toNat / 256)
  | .port, w => w.toNat / 256 == 0 || decide (4 ≤ w.toNat / 256) || decide (16 ≤ w.toNat % 256)

/-- A store fault the settings memory can show: at most 3,072 image words are written, in at most 3,073 writes, and
every address is one of the image's (R183, R189). -/
def StoreFault.wf : StoreFault → Bool
  | .writeNoAnswer done => decide (done ≤ 3072)
  | .readNoAnswer addr => decide (addr < 3072)
  | .mismatch addr _ => decide (addr < 3072)

/-- The well-formed commands. The manual gives a received frame no greatest length: a FRAME_ARRIVAL_START brings at most the
1,518 bytes of a tagged Ethernet frame without its check (PRESUMED, log 53). -/
def Instr.wf : Instr → Bool
  | .storeFailed f => f.wf
  | .grantOpen level _ => level != .none
  | .frameArrivalStart bytes => decide (bytes.length ≤ 1518)
  | .portStateReply m => m.valid && m.isReply
  | .portStateNotice m => m.valid
  | .portStateDiscard m => !m.valid
  | .requestBadValue t w => t.bad w
  | _ => true

end Sys2Proof
end

