-- ==== Sys2Proof/Certificates/Slice0/Obligations.lean ====
section
/-! DEFINITION. The statements for the provers, with the words they share: which fields of State stand, what a word
stored and an event appended leave, and when the processor's writes are served. -/

namespace Sys2Proof.Claims

open Sys2Proof Sys2Proof.Machine

/-- The fields of State but the queue of commands. -/
inductive Part where
  | free
  | sram
  | settingsMem
  | cfg
  | bus
  | time
  | track
  | cameras
  | reject
  | robots
  | engine
  | field
  | grant
  | switch
  | lines
  | notice
  | writer
  | loader
  deriving DecidableEq, Repr

/-- A field is the same in two states. -/
def Part.same (s t : State) : Part → Prop
  | .free => t.free = s.free
  | .sram => t.sram = s.sram
  | .settingsMem => t.settingsMem = s.settingsMem
  | .cfg => t.cfg = s.cfg
  | .bus => t.bus = s.bus
  | .time => t.time = s.time
  | .track => t.track = s.track
  | .cameras => t.cameras = s.cameras
  | .reject => t.reject = s.reject
  | .robots => t.robots = s.robots
  | .engine => t.engine = s.engine
  | .field => t.field = s.field
  | .grant => t.grant = s.grant
  | .switch => t.switch = s.switch
  | .lines => t.lines = s.lines
  | .notice => t.notice = s.notice
  | .writer => t.writer = s.writer
  | .loader => t.loader = s.loader

/-- Of State, at most the listed fields differ. -/
def Only (ps : List Part) (s t : State) : Prop := t.pending = s.pending ∧ ∀ p, p ∉ ps → Part.same s t p

/-- The list of write-outs grows at its end only. -/
def Asks (s t : State) : Prop := t.writer.current = s.writer.current ∧ s.writer.queue <+: t.writer.queue

/-- Of State, at most the listed fields differ, but that write-outs may be asked for. -/
def OnlyAsks (ps : List Part) (s t : State) : Prop := Only (.writer :: ps) s t ∧ Asks s t

/-- One word of SRAM is stored and every byte outside it reads as before. -/
def Stores (a : Nat) (w : Word) (s t : State) : Prop :=
  t.sram = s.sram.writeWord a w ∧ ∀ b, b ≠ 2 * a → b ≠ 2 * a + 1 → t.sram.readByte b = s.sram.readByte b

/-- No event is appended and none is lost. -/
def LogsNothing (s t : State) : Prop :=
  t.notice.writeIx = s.notice.writeIx ∧ t.notice.lost = s.notice.lost ∧
    t.notice.flags.getLsbD flagEventDropped = s.notice.flags.getLsbD flagEventDropped

/-- One event is appended with a stamp: a slot is reserved and its record's write-out asked for; with the ring full it
is dropped and counted; without a configuration there is no ring (R180, R182). -/
def LogsAt (k : EventKind) (subject : Word) (time : Time) (q : TimeState) (d1 d2 : Word) (s t : State) : Prop :=
  if s.cfg = none then LogsNothing s t
  else if eventRingFull s then
    t.notice.lost = satInc s.notice.lost ∧ t.notice.writeIx = s.notice.writeIx ∧
      t.notice.flags.getLsbD flagEventDropped = true
  else
    t.notice.writeIx = (s.notice.writeIx + 1) % 64 ∧ t.notice.lost = s.notice.lost ∧
      t.notice.flags.getLsbD flagEventDropped = s.notice.flags.getLsbD flagEventDropped ∧
      Job.event s.notice.writeIx (eventWords k subject time q d1 d2) ((s.notice.writeIx + 1) % 64) ∈ t.writer.queue

/-- One event is appended, stamped with local time and the time state of `s` (R2, R180). -/
def Logs (k : EventKind) (subject d1 d2 : Word) (s t : State) : Prop :=
  LogsAt k subject s.time.now s.time.state d1 d2 s t

/-- An event as a rule gives it: its kind and subject, its stamp, its two detail words. -/
structure Event where
  kind : EventKind
  subject : Word
  time : Time
  quality : TimeState
  first : Word
  second : Word
  deriving DecidableEq, Repr

/-- An event stamped with the local time and the time state of `s`. -/
def eventNow (s : State) (k : EventKind) (subject first second : Word) : Event :=
  ⟨k, subject, s.time.now, s.time.state, first, second⟩

/-- These events are appended, one after the other, and no other (R180). -/
def LogsAll : List Event → State → State → Prop
  | [], s, t => LogsNothing s t
  | e :: es, s, t => ∃ u : State, u.cfg = s.cfg ∧ u.notice.readIx = s.notice.readIx ∧
      LogsAt e.kind e.subject e.time e.quality e.first e.second s u ∧ Asks u t ∧ LogsAll es u t

/-- These events are the first that are appended. -/
def LogsFirst (es : List Event) (s t : State) : Prop := ∃ u : State, LogsAll es s u ∧ Asks u t

/-- The ROBOT_STATE events of a robot that goes through these contexts, one for each change, with the code before and the
code after it (R123). -/
def contextEvents (s : State) (r : Fin 8) (cs : List Context) : List Event :=
  ((cs.zip cs.tail).filter fun x => x.1 != x.2).map fun x =>
    eventNow s .robotState (BitVec.ofNat 16 r.val) (BitVec.ofNat 16 (contextCode x.1)) (BitVec.ofNat 16 (contextCode x.2))

/-- Of the flags but EVENT_DROPPED, those listed are raised and every other stands as it was. -/
def Raises (ns : List Nat) (s t : State) : Prop :=
  ∀ n, n ≠ flagEventDropped → t.notice.flags.getLsbD n = (s.notice.flags.getLsbD n || ns.contains n)

/-- Of the notice state at most the flags, the event write index and lost count and the statuses differ. -/
def NoticeFrame (s t : State) : Prop :=
  t.notice.enables = s.notice.enables ∧ t.notice.globalEnable = s.notice.globalEnable ∧
    t.notice.readIx = s.notice.readIx ∧ t.notice.shownIx = s.notice.shownIx

/-- As `NoticeFrame`, with every request word showing what it showed. -/
def NoticeKept (s t : State) : Prop := NoticeFrame s t ∧ t.notice.status = s.notice.status

/-- The processor's writes are served at once: ACTIVE under configuration `c`, no access in flight, and the arbiter
would grant the processor the next slot (R85, R99). -/
def Serving (s : State) (c : Settings) : Prop :=
  s.bus.device = .active ∧ s.cfg = some c ∧ s.bus.access = none ∧ arbiter true s = some .processor

/-- A request to word `i` of the control page is answered with status `w`: the word is stored at the request word's
address and shown, and the Access Path has counted one slot granted to the processor. Of the other fields at most those
listed differ. -/
def Answers (c : Settings) (i : Fin 26) (w : Word) (ps : List Part) (s t : State) : Prop :=
  Stores (c.page + 16 + i.val) w s t ∧ t.notice.status = s.notice.status.set i w ∧
    t.bus = (granting .processor s).bus ∧ NoticeFrame s t ∧ OnlyAsks (.sram :: .notice :: .bus :: ps) s t

/-- The commands that are whole writes of the processor, as address, lanes and data (the rows of the request words, the
notice words and MEMORY_WRITE). -/
def asWrite (s : State) : Instr → Option (Nat × Lanes × Word)
  | .memoryWrite a l w => some (a.toNat, l, w)
  | .noticeFlagsWrite l w => some (pageBase s, l, w)
  | .noticeEnablesWrite l w => some (pageBase s + 1, l, w)
  | .globalEnableWrite l w => some (pageBase s + 2, l, w)
  | .handover r w => some (pageBase s + 16 + r.val, .both, w)
  | .take r w => some (pageBase s + 24 + r.val, .both, w)
  | .grantOpen v m => some (pageBase s + 32, .both, wordOf (BitVec.ofNat 8 (levelCode v)) m)
  | .grantClose m => some (pageBase s + 32, .both, wordOf 0 m)
  | .portDisable p => some (pageBase s + 33, .both, wordOf 1 (BitVec.ofNat 8 p.val))
  | .portEnable p => some (pageBase s + 33, .both, wordOf 2 (BitVec.ofNat 8 p.val))
  | .portRelease p => some (pageBase s + 33, .both, wordOf 3 (BitVec.ofNat 8 p.val))
  | .policyNormal => some (pageBase s + 34, .both, 0)
  | .policyRejectAll => some (pageBase s + 34, .both, 1)
  | .policyBypass => some (pageBase s + 34, .both, 2)
  | .markLow w => some (pageBase s + 35, .both, w)
  | .mark w => some (pageBase s + 36, .both, w)
  | .outcomeRead w => some (pageBase s + 37, .both, w)
  | .eventRead w => some (pageBase s + 38, .both, w)
  | .generalOut m v => some (pageBase s + 39, .both, wordOf m v)
  | .lineReset => some (pageBase s + 40, .both, 1)
  | .reload => some (pageBase s + 40, .both, 2)
  | .reloadAndStore => some (pageBase s + 40, .both, 3)
  | .refusalRearm => some (pageBase s + 40, .both, 4)
  | .faultReload => some (Config.defaultPage + 40, .both, 2)
  | .faultReloadAndStore => some (Config.defaultPage + 40, .both, 3)
  | .timeCapture w => some (pageBase s + 41, .both, w)
  | .requestBadValue .control w => some (pageBase s + 40, .both, w)
  | .requestBadValue .policy w => some (pageBase s + 34, .both, w)
  | .requestBadValue .grant w => some (pageBase s + 32, .both, w)
  | .requestBadValue .port w => some (pageBase s + 33, .both, w)
  | _ => none

/-- The commands that store nothing in SRAM: those that give no agent a slot and complete no access, but that
CHECK_COMPLETE and IMAGE_CHECK_END may release a held one. -/
def storesNothing (i : Instr) : Bool :=
  match i with
  | .processorAccess .. | .memoryWrite .. | .memorySlot | .noticeFlagsWrite .. | .noticeEnablesWrite ..
  | .globalEnableWrite .. | .handover .. | .take .. | .grantOpen .. | .grantClose .. | .portDisable .. | .portEnable ..
  | .portRelease .. | .policyNormal | .policyRejectAll | .policyBypass | .markLow .. | .mark .. | .outcomeRead ..
  | .eventRead .. | .generalOut .. | .lineReset | .reload | .reloadAndStore | .refusalRearm | .faultReload
  | .faultReloadAndStore | .timeCapture .. | .requestBadValue .. => false
  | _ => true

end Sys2Proof.Claims

open Sys2Proof Sys2Proof.Machine Sys2Proof.Claims

/-! ### The machine -/

/-- A step takes the command at the front of the queue and runs it with the rest; an empty queue idles. The queue is the
model's own (log 1, log 3). -/
def Obligations.StepTakesTheFront : Prop :=
  (∀ (c : Instr) (cs : List Instr) (s : State), step { s with pending := c :: cs } = exec c { s with pending := cs }) ∧
    ∀ s : State, s.pending = [] → step s = .next s

/-- When a mirror that follows what it shows is rewritten: in ACTIVE, the device word outside LOADING, the refusal words and
the event indices in a RELOADING entered from ACTIVE too; the other words are written by rules of their own (R20, R41, R57,
R81, R92, R95, R119, R137, R150, R164, R172, R177, R180, R182, R186, R187). -/
def Sys2Proof.Claims.MirrorDue (t : State) (m : Mirror) : Prop :=
  match m with
  | .enables | .globalEnable | .outcomeIndex | .eventIndex | .request _ => False
  | .device => t.bus.device ≠ .loading
  | .refusal | .events => t.bus.device = .active ∨ (t.bus.device = .reloading ∧ t.cfg ≠ none)
  | _ => t.bus.device = .active

/-- What a mirror shows differs in two states: of a line but for its debounce bit, and of an encoder line only with the
line state, which is read as RUNNING and STOPPED (R172; log 10, log 63). -/
def Sys2Proof.Claims.ShownChanges (s t : State) (m : Mirror) : Prop :=
  match m with
  | .line l => lineWord s l &&& 0xFFEF ≠ lineWord t l &&& 0xFFEF ∧
      (s.track.running ≠ t.track.running ∨
        ∀ rec, t.lines.line[l].record = some rec → rec.fn ≠ .encoderA ∧ rec.fn ≠ .encoderB)
  | _ => mirrorWords m s ≠ mirrorWords m t

/-- Every command completes in every state, none touches the queue, and each mirror whose words a command changed, where the
device state lets them be rewritten, has its write-out waiting after it; an encoder line's word only with a change of line
state (R101 and the rules of the mirrors; the words by 13.2 to 13.4; log 1, log 2; that what is shown before and after a
command is compared, log 10, and that the line state is RUNNING and STOPPED, log 63, is the model's choice). -/
def Obligations.EveryCommandCompletes : Prop :=
  ∀ (i : Instr) (s : State), ∃ t, exec i s = .next t ∧ t.pending = s.pending ∧
    ∀ m : Mirror, MirrorDue t m → ShownChanges s t m → Job.mirror m ∈ t.writer.queue

/-- FULL_RESET: whatever the state, every block is in its full-reset state and LOADING begins; SRAM, the pins and, with
no store in progress, the settings memory stand; the blocks' reset values the manual does not state are the model's
(log 6, log 7, log 29). -/
def Obligations.FullResetClearsEveryBlock : Prop :=
  ∀ s : State, ∃ t, exec .fullReset s = .next t ∧ t.pending = s.pending ∧ t.sram = s.sram ∧
    (s.bus.storing = false → t.settingsMem = s.settingsMem) ∧ t.cfg = none ∧ t.bus = Bus.reset ∧
    t.time = TimeUnit.reset ∧ t.track = TrackUnit.reset ∧ t.cameras = Vector.replicate 4 Camera.reset ∧
    t.reject = RejectUnit.reset ∧ t.robots = Vector.replicate 8 Robot.reset ∧ t.engine = Engine.reset ∧
    t.field = FieldPort.reset ∧ t.grant = GrantUnit.reset ∧ t.switch = SwitchUnit.reset ∧
    t.notice = NoticeUnit.reset ∧ t.writer = Writer.reset ∧ t.loader = Loader.reset ∧
    t.lines.cyclePulseEnd = none ∧ t.lines.toggleAt = none ∧ t.lines.held = 0 ∧
    ∀ l : Fin 16, t.lines.line[l].record = none ∧ t.lines.line[l].debounceEnd = none ∧
      t.lines.line[l].pin = s.lines.line[l].pin

/-! ### Invariants that every step keeps -/

/-- Both memories keep their canonical form. -/
def Obligations.StepKeepsMemoriesCanonical : Prop := ∀ s t : State, MemoriesWf s → step s = .next t → MemoriesWf t

/-- The correction never leaves ±6,871,947 (R10, R8, R1). -/
def Obligations.StepKeepsCorrectionBounded : Prop :=
  ∀ s t : State, s.time.corr.natAbs ≤ 6871947 → step s = .next t → t.time.corr.natAbs ≤ 6871947

/-- The state that Law 1 needs of a robot: a pending hand-over has a CHECK bank before it. -/
def Sys2Proof.Claims.OutputBanksOk (b : Robot) : Prop := LawOne b ∧ (b.pendingMask.isSome = true → checking b = true)

/-- Law 1: of each robot's output banks exactly one is HOST and no two share another role than FREE. -/
def Obligations.StepKeepsLawOne : Prop :=
  ∀ s t : State, (∀ r : Fin 8, OutputBanksOk s.robots[r]) → step s = .next t → ∀ r : Fin 8, OutputBanksOk t.robots[r]

/-- The state that Law 2 needs of a robot: an answer in hand has its own bank FILLING, and no other bank is. -/
def Sys2Proof.Claims.InputBanksOk (b : Robot) : Prop :=
  LawTwo b ∧ (match b.answer with | some a => b.inp[a.bank] = .filling | none => inCount b .filling = 0)

/-- Law 2: of each robot's input banks exactly one is HOST_IN and no two share another role than FREE. -/
def Obligations.StepKeepsLawTwo : Prop :=
  ∀ s t : State, (∀ r : Fin 8, InputBanksOk s.robots[r]) → step s = .next t → ∀ r : Fin 8, InputBanksOk t.robots[r]

/-- The state that Law 6 needs: the ring has the configured length and the next number follows position 0. -/
def Sys2Proof.Claims.RingOk (s : State) : Prop :=
  LawSix s ∧ (∀ c ∈ s.track.ring.head?, s.track.nextSeq = c.seq + 1) ∧
    (∀ c ∈ s.cfg, s.track.ring.length = c.track.len)

/-- Law 6: once built, the ring holds exactly L records whose numbers run consecutively from position L − 1 to 0. -/
def Obligations.StepKeepsLawSix : Prop := ∀ s t : State, RingOk s → step s = .next t → RingOk t

/-- Law 8: the policy is BYPASS only while an open grant has granted level MAINTAIN. -/
def Obligations.StepKeepsLawEight : Prop := ∀ s t : State, LawEight s → step s = .next t → LawEight t

/-- The state after a full reset, as the reset rules give it (R21, R42, R58, R82, R98, R120, R138, R151, R165, R182,
R185), and as the model chooses for the next sequence number before a ring is built (log 6); it meets every invariant
stated. -/
def Obligations.ResetStateMeetsRulesAndInvariants : Prop :=
  let s := State.reset
  s.bus.device = .loading ∧ s.bus.storing = false ∧ s.bus.refusals = 0 ∧ s.bus.record = none ∧ s.bus.access = none ∧
  s.time.now = 0 ∧ s.time.frac = 0 ∧ s.time.corr = 0 ∧ s.time.integ = 0 ∧ s.time.state = .free ∧
  s.time.cycleNumber = 0 ∧ s.time.nextCycle = none ∧ s.time.holdover = none ∧
  s.track.running = false ∧ s.track.acc = 0 ∧ s.track.nextSeq = 0 ∧ s.track.period = none ∧
  (∀ c : Fin 4, s.cameras[c].triggers = 0 ∧ s.cameras[c].pending = [] ∧ s.cameras[c].readyAt = none) ∧
  s.reject.policy = .normal ∧ s.reject.list = [] ∧ s.reject.exitQueue = [] ∧ s.reject.pulseEnd = none ∧
  s.reject.writeIx = 0 ∧ s.reject.readIx = 0 ∧
  (∀ r : Fin 8, s.robots[r].out = #v[.host, .free, .free] ∧ s.robots[r].inp = #v[.hostIn, .free, .free] ∧
    s.robots[r].pendingMask = none ∧ s.robots[r].firstClamped = 65535 ∧ s.robots[r].context = .offline ∧
    s.robots[r].answerState = .none) ∧
  s.engine.queue = [] ∧ s.engine.current = none ∧ s.grant.isOpen = false ∧ s.grant.lamp = .off ∧
  (∀ p : Fin 16, s.switch.ports[p].known = .unknown ∧ s.switch.ports[p].link = .unknown) ∧
  s.switch.queue = [] ∧ s.switch.outstanding = none ∧ s.switch.nextSeq = 0 ∧
  s.notice.flags = 0 ∧ s.notice.enables = 0 ∧ s.notice.globalEnable = false ∧ s.notice.writeIx = 0 ∧
  s.notice.readIx = 0 ∧ s.notice.lost = 0 ∧
  MemoriesWf State.reset ∧ State.reset.time.corr.natAbs ≤ 6871947 ∧ RingOk State.reset ∧ LawEight State.reset ∧
    ∀ r : Fin 8, OutputBanksOk State.reset.robots[r] ∧ InputBanksOk State.reset.robots[r]

/-- The commands that give no agent a slot and complete no access leave every byte of SRAM, and so do CHECK_COMPLETE and
IMAGE_CHECK_END where they have no access to release; only a store, or a full reset that ends one, changes the settings
memory (R189; what a full reset leaves of a store is free, log 11). -/
def Obligations.OnlySlotsAndStoresReachMemory : Prop :=
  (∀ (i : Instr) (s t : State), storesNothing i = true →
    (i = .checkComplete ∨ (∃ a, i = .imageCheckEnd a) → s.bus.access = none) → exec i s = .next t →
    ∀ b, t.sram.readByte b = s.sram.readByte b) ∧
  ∀ (i : Instr) (s t : State), i ≠ .storeComplete → (∀ f, i ≠ .storeFailed f) →
    (i = .fullReset → s.bus.storing = false) → exec i s = .next t → t.settingsMem = s.settingsMem

/-! ### Machine time (01) -/

/-- CLOCK_TICK: local time, the whole part above the fraction, grows by 8 ns plus c units of 2^-32 ns, carries and
borrows included; nothing else the manual names changes (R1; the model's own record of the advance, log 46). -/
def Obligations.ClockTickAddsEightPlusCorrection : Prop :=
  ∀ s : State, s.time.corr.natAbs ≤ 6871947 →
    ∃ t, exec .clockTick s = .next t ∧
      (t.time.now ++ t.time.frac : BitVec 96) =
        (s.time.now ++ s.time.frac : BitVec 96) + BitVec.ofInt 96 (8 * 2 ^ 32 + s.time.corr) ∧
      t.time = { s.time with now := t.time.now, frac := t.time.frac, advance := t.time.advance } ∧ Only [.time] s t

/-- HOLDOVER_TIMEOUT: in LOCKING or LOCKED with the timer reached, the state becomes HOLDOVER, the lock run 0 and the
timer absent; c, I and SATURATED stand; the change is reported with the new state as its quality (R12, R13). -/
def Obligations.HoldoverTimeoutEndsLock : Prop :=
  ∀ s : State, (s.time.state = .locking ∨ s.time.state = .locked) → due s.time.holdover s.time.now = true →
    ∃ t, exec .holdoverTimeout s = .next t ∧
      t.time = { s.time with state := .holdover, lockRun := 0, holdover := none } ∧
      Raises [flagTimeState] s t ∧
      LogsAt .timeState 0 s.time.now .holdover (BitVec.ofNat 16 (timeStateCode s.time.state)) 3 s t ∧
      NoticeKept s t ∧ OnlyAsks [.time, .notice] s t

/-- A deadline moved by −o: absent it stays absent, held it is moved, and the time left to it is the same. -/
def Sys2Proof.Claims.Shifted (o : BitVec 64) (s t : State) (a b : Option Time) : Prop :=
  (a = none ∧ b = none) ∨ ∃ d, a = some d ∧ b = some (d - o) ∧ (d - o) - t.time.now = d - s.time.now

/-- The Tracking Unit across a step: the last pitch time and the stop timeout moved, and the fire time held in an ARMED
record; every stamp of a record and everything else stands (R28, R75). -/
def Sys2Proof.Claims.TrackShifted (o : BitVec 64) (s t : State) : Prop :=
  Shifted o s t s.track.lastPitch t.track.lastPitch ∧ Shifted o s t s.track.stopAt t.track.stopAt ∧
    t.track = { s.track with lastPitch := t.track.lastPitch, stopAt := t.track.stopAt, ring := t.track.ring } ∧
    t.track.ring.length = s.track.ring.length ∧
    ∀ (p : Nat) (x : Record), recordAt p s = some x → ∃ y, recordAt p t = some y ∧ y = { x with ejection := y.ejection } ∧
      (∀ f, x.ejection = some (.armed f) → y.ejection = some (.armed (f - o))) ∧
      ((∀ f, x.ejection ≠ some (.armed f)) → y.ejection = x.ejection)

/-- The Reject Unit across a step: the pulse end moved, and each entry's fire time and confirm deadline (R75). -/
def Sys2Proof.Claims.RejectShifted (o : BitVec 64) (s t : State) : Prop :=
  Shifted o s t s.reject.pulseEnd t.reject.pulseEnd ∧
    t.reject = { s.reject with pulseEnd := t.reject.pulseEnd, list := t.reject.list } ∧
    t.reject.list.length = s.reject.list.length ∧
    ∀ (n : Nat) (e : EjectEntry), s.reject.list[n]? = some e →
      ∃ d, t.reject.list[n]? = some ⟨e.seq, e.fire - o, d, e.inPulse⟩ ∧ Shifted o s t e.deadline d

/-- The aligned time number `k`: the phase and `k` whole periods (R14). -/
def Sys2Proof.Claims.alignedTime (g : TimeCfg) (k : Nat) : Nat := 1000 * g.phaseUs + k * (1000 * g.periodUs)

/-- `x` is the first aligned time no earlier than `t` (R16), and the first one later than `t` (R14; on unsigned numbers, its
value modulo 2^64, log 4). -/
def Sys2Proof.Claims.FirstFrom (g : TimeCfg) (t x : Time) : Prop :=
  ∃ k, x = BitVec.ofNat 64 (alignedTime g k) ∧ t.toNat ≤ alignedTime g k ∧ ∀ j < k, alignedTime g j < t.toNat
def Sys2Proof.Claims.FirstAfter (g : TimeCfg) (t x : Time) : Prop :=
  ∃ k, x = BitVec.ofNat 64 (alignedTime g k) ∧ t.toNat < alignedTime g k ∧ ∀ j < k, alignedTime g j ≤ t.toNat

/-- The Time Unit across a step: local time less o, the fraction kept, c, I and SATURATED cleared, the holdover timer
moved, and a running schedule given the aligned time half a period on or later (R8, R9, R16). The last CYCLE time and
the schedule start stand, which is the model's choice (log 41; aligned times on unsigned numbers, log 4). -/
def Sys2Proof.Claims.TimeStepped (o : BitVec 64) (s t : State) : Prop :=
  t.time = { s.time with now := s.time.now - o, corr := 0, integ := 0, saturated := false, holdover := t.time.holdover,
                         nextCycle := t.time.nextCycle } ∧
    Shifted o s t s.time.holdover t.time.holdover ∧
    (s.time.nextCycle = none → t.time.nextCycle = none) ∧
    ∀ c : Settings, s.cfg = some c → s.time.nextCycle.isSome = true →
      let from0 := t.time.now + BitVec.ofNat 64 (500 * c.time.periodUs)
      t.time.nextCycle = some (alignedFrom c.time from0) ∧
        (0 < c.time.periodUs → FirstFrom c.time from0 (alignedFrom c.time from0))

/-- A step by o: local time less o, c, I and SATURATED cleared, the cycle schedule aligned anew; every deadline of the
Tracking Unit, the cameras, the Reject Unit, the robots, the Grant Unit, the Switch Supervisor and the Line Unit moved by
−o so that its time left stands, and no stamp of theirs moved (R8, R9, R16, R28, R47, R75, R136, R149, R163, R173; that
the last CYCLE time and the schedule start stand is the model's choice, log 41). -/
def Obligations.StepShiftsGrantSwitchAndLineDeadlines : Prop :=
  ∀ (o : BitVec 64) (s : State), let t := stepTime o s
    TimeStepped o s t ∧ TrackShifted o s t ∧ RejectShifted o s t ∧
    (∀ k : Fin 4, Shifted o s t s.cameras[k].pulseEnd t.cameras[k].pulseEnd ∧
      Shifted o s t s.cameras[k].readyAt t.cameras[k].readyAt ∧
      t.cameras[k] = { s.cameras[k] with pulseEnd := t.cameras[k].pulseEnd, readyAt := t.cameras[k].readyAt }) ∧
    (∀ r : Fin 8, Shifted o s t s.robots[r].lastSend t.robots[r].lastSend ∧
      t.robots[r] = { s.robots[r] with lastSend := t.robots[r].lastSend }) ∧
    Shifted o s t s.grant.expiry t.grant.expiry ∧ Shifted o s t s.grant.blinkStart t.grant.blinkStart ∧
    Shifted o s t s.grant.debounceEnd t.grant.debounceEnd ∧
    t.grant = { s.grant with expiry := t.grant.expiry, blinkStart := t.grant.blinkStart,
                             debounceEnd := t.grant.debounceEnd } ∧
    (∀ p : Fin 16, Shifted o s t s.switch.ports[p].flapEnd t.switch.ports[p].flapEnd ∧
      t.switch.ports[p] = { s.switch.ports[p] with flapEnd := t.switch.ports[p].flapEnd }) ∧
    (∀ x ∈ s.switch.outstanding, ∃ y, t.switch.outstanding = some y ∧ Shifted o s t x.deadline y.deadline ∧
      y = { x with deadline := y.deadline }) ∧
    (s.switch.outstanding = none → t.switch.outstanding = none) ∧
    t.switch = { s.switch with ports := t.switch.ports, outstanding := t.switch.outstanding } ∧
    Shifted o s t s.lines.cyclePulseEnd t.lines.cyclePulseEnd ∧ Shifted o s t s.lines.toggleAt t.lines.toggleAt ∧
    (∀ l : Fin 16, Shifted o s t s.lines.line[l].debounceEnd t.lines.line[l].debounceEnd ∧
      t.lines.line[l] = { s.lines.line[l] with debounceEnd := t.lines.line[l].debounceEnd }) ∧
    t.lines = { s.lines with line := t.lines.line, cyclePulseEnd := t.lines.cyclePulseEnd, toggleAt := t.lines.toggleAt } ∧
    t.notice.flags.getLsbD flagTimeStep = true ∧ NoticeKept s t ∧
    OnlyAsks [.time, .track, .cameras, .reject, .robots, .grant, .switch, .lines, .notice] s t

/-- A TIME frame admitted from port `p`, received whole: it is held for the Time Unit, whatever role the port has now. -/
def Sys2Proof.Claims.HallFrame (s : State) (c : Settings) (rx : Receiving) (p : Fin 16) : Prop :=
  s.bus.device = .active ∧ s.cfg = some c ∧ s.field.receiving = some rx ∧ rx.stage = .held p .time

/-- One that is accepted: its body holds the ten bytes and names the configured source (R4). -/
def Sys2Proof.Claims.TimeFrame (s : State) (c : Settings) (rx : Receiving) (p : Fin 16) : Prop :=
  HallFrame s c rx p ∧ 29 ≤ rx.bytes.length ∧ be16 rx.bytes 27 = c.time.sourceId

/-- The offset of a TIME frame: (A − P) − S, the source time at bytes 19 to 26 (R5; 13.6). -/
def Sys2Proof.Claims.frameOffset (c : Settings) (rx : Receiving) : BitVec 64 :=
  rx.stamp - BitVec.ofNat 64 c.time.pathDelay - be64 rx.bytes 19

/-- What every accepted TIME frame leaves: no frame in reception, the port's admitted count, the accepted count, the
offset kept, the holdover timer restarted on local time as it now stands (R4, R5, R6, R162). -/
def Sys2Proof.Claims.FrameTaken (s : State) (c : Settings) (rx : Receiving) (p : Fin 16) (t : State) : Prop :=
  t.field = { s.field with receiving := none } ∧ t.switch.ports[p].admitted = s.switch.ports[p].admitted + 1 ∧
    t.time.accepted = satInc s.time.accepted ∧ t.time.lastOffset = frameOffset c rx ∧
    t.time.holdover = some (t.time.now + BitVec.ofNat 64 (c.time.holdoverS * 1000000000))

/-- The state in which a TIME frame's step is applied: the frame gone and counted at its port, the accepted count and the
offset of the frame kept (R6, R162). -/
def Sys2Proof.Claims.beforeStep (s : State) (c : Settings) (rx : Receiving) (p : Fin 16) : State :=
  { s with
    field := { s.field with receiving := none }
    switch := { s.switch with
      ports := s.switch.ports.set p { s.switch.ports[p] with admitted := s.switch.ports[p].admitted + 1 } }
    time := { s.time with accepted := satInc s.time.accepted, lastOffset := frameOffset c rx } }

/-- A TIME_STATE event: the old and the new state, stamped with local time and the new state (R13). -/
def Sys2Proof.Claims.stateEvent (now : Time) (old new : TimeState) : Event :=
  ⟨.timeState, 0, now, new, BitVec.ofNat 16 (timeStateCode old), BitVec.ofNat 16 (timeStateCode new)⟩

/-- The aligned times no later than `t`: the phase, and one each period after it (R14). -/
def Sys2Proof.Claims.alignedBy (g : TimeCfg) (t : Nat) : Nat :=
  if t < 1000 * g.phaseUs then 0 else (t - 1000 * g.phaseUs) / (1000 * g.periodUs) + 1

/-- The events of a step by `o` in time state `q`: TIME_STEP with o held to 32 bits, and, while the schedule runs,
CYCLE_SLIP with the aligned times strictly between the last CYCLE time and the new next one, and the time from the one to
the other in µs, measured before the step up to it and after it from there on (R8, R17; the last CYCLE time as it was held,
log 41). -/
def Sys2Proof.Claims.stepEvents (s : State) (g : TimeCfg) (o : BitVec 64) (q : TimeState) : List Event :=
  let now := s.time.now - o
  let v : Int := max (-2147483648) (min 2147483647 o.toInt)
  let last := s.time.lastCycle.getD (s.time.schedStart.getD now)
  let next := alignedFrom g (now + BitVec.ofNat 64 (500 * g.periodUs))
  let skips := if next.toNat ≤ last.toNat then 0 else alignedBy g next.toNat - 1 - alignedBy g last.toNat
  let us : Int := ((s.time.now - last).toInt + (next - now).toInt) / 1000
  ⟨.timeStep, 0, now, .locking, BitVec.ofInt 16 v, BitVec.ofInt 16 (v / 65536)⟩ ::
    (if s.time.nextCycle.isSome then
      [⟨.cycleSlip, 0, now, q, BitVec.ofNat 16 (min 65535 skips), BitVec.ofInt 16 (max 0 (min 65535 us))⟩] else [])

/-- A TIME frame discarded: counted at its port, and of the Time Unit only what `f` counts changes; the time mirror is
rewritten (R4, R162). -/
def Sys2Proof.Claims.FrameDiscarded (f : TimeUnit → TimeUnit) (s : State) (rx : Receiving) (p : Fin 16) : Prop :=
  ∃ t, exec (.frameReceptionEnd (some (Config.frameCheck rx.bytes))) s = .next t ∧ t.time = f s.time ∧
    t.field = { s.field with receiving := none } ∧
    t.switch = { s.switch with
      ports := s.switch.ports.set p { s.switch.ports[p] with admitted := s.switch.ports[p].admitted + 1 } } ∧
    Job.mirror .time ∈ t.writer.queue ∧ LogsNothing s t ∧ Raises [] s t ∧ NoticeKept s t ∧
    OnlyAsks [.time, .field, .switch, .notice] s t

/-- FRAME_RECEPTION_END of an admitted TIME frame in ACTIVE, its check good, whatever role its port then has. Malformed or
foreign: counted and discarded. Accepted outside FREE with |o| within the step threshold: the discipline computation, the
lock run and the state. In FREE with o not 0, else with |o| beyond the threshold: a step, c and I 0, LOCKING, lock run 0,
TIME_STEP raised, the schedule and every block's deadlines as the step by o leaves them. In FREE with o 0: LOCKING, and the
clock stands. TIME_STEP, TIME_STATE and CYCLE_SLIP are appended in the order of the stages with their details (R3, R4, R6,
R7, R8, R9, R10, R11, R13, R16, R17; that a step leaves the last CYCLE time and the schedule start is the model's choice,
log 41, the quality of a CYCLE_SLIP is read from the stages, log 36). -/
def Obligations.TimeFramesSteerOrStep : Prop :=
  ∀ (s : State) (c : Settings) (rx : Receiving) (p : Fin 16),
    let held := s.time.state = .holdover
    let q := if held then .locking else s.time.state
    let leaves := if held then [stateEvent s.time.now .holdover .locking] else []
    (HallFrame s c rx p → rx.bytes.length < 29 →
      FrameDiscarded (fun x => { x with malformed := satInc x.malformed }) s rx p) ∧
    (HallFrame s c rx p → 29 ≤ rx.bytes.length → be16 rx.bytes 27 ≠ c.time.sourceId →
      FrameDiscarded (fun x => { x with foreign := satInc x.foreign }) s rx p) ∧
    (TimeFrame s c rx p → s.time.state = .free → frameOffset c rx = 0 →
      ∃ t, exec (.frameReceptionEnd (some (Config.frameCheck rx.bytes))) s = .next t ∧ FrameTaken s c rx p t ∧
        t.time = { s.time with accepted := satInc s.time.accepted, lastOffset := 0, state := .locking, lockRun := 0
                               holdover := t.time.holdover } ∧
        LogsAll [stateEvent s.time.now .free .locking] s t ∧ Raises [flagTimeState] s t ∧ NoticeKept s t ∧
        Job.mirror .time ∈ t.writer.queue ∧ OnlyAsks [.time, .field, .switch, .notice] s t) ∧
    (TimeFrame s c rx p → s.time.state ≠ .free → (frameOffset c rx).toInt.natAbs ≤ c.time.stepThreshold →
      let o := (frameOffset c rx).toInt
      let lim : Int := 6871947 / 2 ^ c.time.gi
      let i := max (-lim) (min lim (s.time.integ + o))
      let k := -(o * 2 ^ c.time.gp + i * 2 ^ c.time.gi)
      let run := min 4 ((if held then 0 else s.time.lockRun) + 1)
      ∃ t, exec (.frameReceptionEnd (some (Config.frameCheck rx.bytes))) s = .next t ∧ FrameTaken s c rx p t ∧
        t.time.integ = i ∧ t.time.corr = max (-6871947) (min 6871947 k) ∧
        t.time.saturated = (decide (i ≠ s.time.integ + o) || decide (t.time.corr ≠ k)) ∧ t.time.now = s.time.now ∧
        (o.natAbs ≤ c.time.lockWindow →
          t.time.lockRun = run ∧
            t.time.state = if s.time.state = .locked ∨ run = 4 then .locked else .locking) ∧
        (c.time.lockWindow < o.natAbs → t.time.lockRun = 0 ∧ t.time.state = .locking) ∧
        LogsAll (leaves ++ if t.time.state = q then [] else [stateEvent s.time.now q t.time.state]) s t ∧
        Raises (if t.time.state = s.time.state then [] else [flagTimeState]) s t ∧
        NoticeKept s t ∧ OnlyAsks [.time, .field, .switch, .notice] s t) ∧
    (TimeFrame s c rx p →
      (if s.time.state = .free then frameOffset c rx ≠ 0
       else c.time.stepThreshold < (frameOffset c rx).toInt.natAbs) →
      let o := frameOffset c rx
      let v := stepTime o (beforeStep s c rx p)
      ∃ t, exec (.frameReceptionEnd (some (Config.frameCheck rx.bytes))) s = .next t ∧ FrameTaken s c rx p t ∧
        t.time = { v.time with state := .locking, lockRun := 0, holdover := t.time.holdover } ∧ t.track = v.track ∧
        t.cameras = v.cameras ∧ t.reject = v.reject ∧ t.robots = v.robots ∧ t.grant = v.grant ∧ t.switch = v.switch ∧
        t.lines = v.lines ∧
        (0 < c.time.periodUs → s.time.nextCycle.isSome = true → ∃ x, t.time.nextCycle = some x ∧
          FirstFrom c.time (s.time.now - o + BitVec.ofNat 64 (500 * c.time.periodUs)) x) ∧
        t.time.now = s.time.now - o ∧ t.time.frac = s.time.frac ∧ t.time.corr = 0 ∧ t.time.integ = 0 ∧
        t.time.saturated = false ∧ t.time.state = .locking ∧ t.time.lockRun = 0 ∧
        LogsAll (leaves ++ stepEvents s c.time o q ++
          if q = .locking then [] else [stateEvent (s.time.now - o) q .locking]) s t ∧
        Raises (flagTimeStep :: if s.time.state = .locking then [] else [flagTimeState]) s t ∧ NoticeKept s t ∧
        OnlyAsks [.time, .track, .cameras, .reject, .robots, .grant, .switch, .lines, .field, .notice] s t)

/-- The bytes of a CYCLE frame up to its sections: the hall frame header, the fixed part and the announcements
(R125, R191). -/
def Sys2Proof.Claims.CycleBytes (s : State) (c : Settings) (g : RobotCfg) (r : Fin 8) (d : Time) (x : Context)
    (anns : List Announce) (mask : BitVec 2) (bs : List Byte) : Prop :=
  bs.length = 43 + 5 * anns.length ∧ bs.take 12 = List.replicate 6 0xFF ++ List.replicate 6 0 ∧
    be16 bs 12 = c.ports.tagMarker ∧
    (∀ p : Fin 16, s.switch.ports[p].role = .robot r → (∀ k : Fin 16, s.switch.ports[k].role = .robot r → k = p) →
      byteAt bs 14 = BitVec.ofNat 8 p.val) ∧
    byteAt bs 15 = 0 ∧ be16 bs 16 = c.ports.hallType ∧ byteAt bs 18 = 1 ∧ byteAt bs 19 = BitVec.ofNat 8 r.val ∧
    byteAt bs 20 = BitVec.ofNat 8 (contextCode x) ∧ be16 bs 21 = s.time.cycleNumber ∧
    be64 bs 23 = d + BitVec.ofNat 64 (1000 * g.applyUs) ∧ be64 bs 31 = d + BitVec.ofNat 64 (1000 * g.sampleUs) ∧
    byteAt bs 39 = BitVec.ofNat 8 anns.length ∧ byteAt bs 40 = mask.setWidth 8 ∧
    byteAt bs 41 = BitVec.ofNat 8 g.motion ∧
    byteAt bs 42 = (if mask.getLsbD 1 then BitVec.ofNat 8 (g.nOut - g.motion) else 0) ∧
    ∀ (i : Nat) (a : Announce), anns[i]? = some a →
      be32 bs (43 + 5 * i) = a.seq ∧ byteAt bs (47 + 5 * i) = if a.suspect then 1 else 0

/-- What the first four steps of a robot's CYCLE make of it: the context after each, which of them act, the missed run, the
stale count, whether a SAFE entry stays pending, and whether its announcement queue is emptied since it left RUNNING. -/
structure Sys2Proof.Claims.CycleSteps where
  one : Context
  two : Context
  three : Context
  four : Context
  missed : Bool
  run : Word
  lost : Bool
  takes : Bool
  stale : Word
  pending : Bool
  expires : Bool
  emptied : Bool
  deriving DecidableEq, Repr

/-- The first four steps: a DUE answer missed, and LOST at the limit; a pending SAFE entry; the roles and the stale count, a
SAFE robot that takes a READY bank RUNNING; the watchdog (R37, R114, R123, R124, R128, R134). -/
def Sys2Proof.Claims.cycleSteps (b : Robot) (g : RobotCfg) : CycleSteps :=
  let missed := b.answerState == .due
  let run := if missed then satInc b.missedRun else b.missedRun
  let lost := missed && decide (g.missedLimit ≤ run.toNat) && (b.context == .running || b.context == .safe)
  let one := if lost then .lost else b.context
  let enters := b.safePending && one == .running
  let two := if enters then .safe else one
  let works := two == .running || two == .safe
  let takes := works && (outBank b .ready).isSome
  let three := if two = .safe ∧ takes then .running else two
  let stale := if takes then 0 else if works then satInc b.stale else b.stale
  let pending := b.safePending && !lost && !enters
  let expires := three == .running && g.watchdog != 0 && decide (g.watchdog ≤ stale.toNat) && !pending
  let four := if expires && !g.nextCycle then .safe else three
  { one := one, two := two, three := three, four := four, missed := missed, run := run, lost := lost, takes := takes
    stale := stale, pending := pending, expires := expires
    emptied := (b.context == .running && one != .running) || enters || four != three }

/-- Law 6 with fewer than 2^32 positions: no two records of the ring share a number. -/
def Sys2Proof.Claims.Numbered (s : State) : Prop := RingOk s ∧ s.track.ring.length < 4294967296

/-- The announcements of a queue emptied since its robot left RUNNING: the records of the ring that they name are marked
FILL_UNKNOWN, each one newly marked counted (R37). -/
def Sys2Proof.Claims.Emptied (anns : List Announce) (s t : State) : Prop :=
  let named := fun x : Record => anns.any fun a => a.seq == x.seq
  Numbered s →
    t.track.ring = (s.track.ring.map fun x => if named x then { x with fillUnknown := true } else x) ∧
    t.track.fillUnknowns = BitVec.ofNat 16 (min 65535 (s.track.fillUnknowns.toNat +
      (s.track.ring.filter fun x => named x && !x.fillUnknown).length)) ∧
    ((∀ h ∈ s.reject.exitQueue, ∀ x ∈ s.track.ring, h.seq ≠ x.seq) → t.reject = s.reject)

/-- The robots that take part in a CYCLE, in robot order: those configured and not OFFLINE, each with its steps (R124). -/
def Sys2Proof.Claims.cycling (s : State) (c : Settings) : List (Fin 8 × CycleSteps) :=
  allRobots.filterMap fun r => (c.robots[r].filter fun _ => s.robots[r].context != .offline).map fun g =>
    (r, cycleSteps s.robots[r] g)

/-- The contexts that a robot of a CYCLE goes through. -/
def Sys2Proof.Claims.cycleContexts (s : State) (x : Fin 8 × CycleSteps) : List Context :=
  [s.robots[x.1].context, x.2.one, x.2.two, x.2.three, x.2.four]

/-- The five steps of a configured robot that is not OFFLINE, at the CYCLE of time `d`: those of `cycleSteps`, and the frame,
built from the context as it then stands (R37, R114, R115, R118, R123, R124, R125, R128, R134). -/
def Sys2Proof.Claims.RobotAtCycle (s t : State) (c : Settings) (g : RobotCfg) (r : Fin 8) (d : Time) : Prop :=
  let b := s.robots[r]
  let y := t.robots[r]
  let x := cycleSteps b g
  let anns := if x.emptied then [] else s.track.queues[r]
  let link := if x.four = .running then outBank y .link else none
  let mask := match link with | some l => y.masks[l] | none => 0
  y.context = x.four ∧ y.missedRun = x.run ∧
    y.missedTotal = (if x.missed then satInc b.missedTotal else b.missedTotal) ∧
    y.answerState = (if b.answerState = .started then .started else .none) ∧
    y.safePending = (x.pending || x.expires && g.nextCycle) ∧ y.stale = x.stale ∧
    y.expiries = (if x.expires then satInc b.expiries else b.expiries) ∧
    y.ctxChanges = BitVec.ofNat 16 (min 65535 (b.ctxChanges.toNat +
      (contextEvents s r (cycleContexts s (r, x))).length)) ∧
    (x.takes = false → y.out = b.out ∧ y.masks = b.masks) ∧
    (∀ k, x.takes = true → outBank b .ready = some k →
      (outBank b .link = none → y.out = b.out.set k .link ∧ y.masks = b.masks) ∧
      ∀ l, outBank b .link = some l → y.out = (b.out.set k .link).set l .free ∧
        y.masks = (b.masks.set k (b.masks[k] ||| b.masks[l])).set l 0) ∧
    t.track.queues[r] = [] ∧
    ∃ f ∈ t.field.sendList, f.robot = r ∧ f.cycle = s.time.cycleNumber ∧ f.mask = mask ∧
      f.base = (match link with
        | some l => regionBase c .outputBanks (some r) + l.val * g.nOut
        | none => regionBase c .safeImages none + 128 * r.val) ∧
      f.len = (if mask.getLsbD 1 then g.nOut else g.motion) ∧ CycleBytes s c g r d x.four anns mask f.head

/-- The frames of the previous CYCLE that are still unsent: those waiting and the one in transmission (R127). -/
def Sys2Proof.Claims.unsent (s : State) : List TxFrame := s.field.sendList ++ (s.field.sending.map (·.frame)).toList

/-- At a CYCLE the unsent frames are lost: counted for each robot that has one, and reported by one TX_DROPPED event ahead
of the others, given, with the set of the robots and the frames' cycle number (R127). -/
def Sys2Proof.Claims.UnsentAreLost (others : List Event) (s t : State) : Prop :=
  (∀ r : Fin 8,
    ((∀ f ∈ unsent s, f.robot ≠ r) → t.robots[r].txDropped = s.robots[r].txDropped) ∧
    (((unsent s).filter fun f => f.robot == r).length = 1 →
      t.robots[r].txDropped = satInc s.robots[r].txDropped)) ∧
  (unsent s = [] → LogsAll others s t) ∧
  ∀ n : Word, unsent s ≠ [] → (∀ f ∈ unsent s, f.cycle = n) →
    ∃ d : Word, d.toNat < 256 ∧ (∀ r : Fin 8, d.getLsbD r.val = (unsent s).any fun f => f.robot == r) ∧
      LogsAll (eventNow s .txDropped 0 d n :: others) s t

/-- CYCLE: with local time at the next CYCLE time the event is issued: the number grows by one, the next time by the
period, the time issued becomes the last one, and the cycle pulse runs to that time plus its width. Each configured robot
that is not OFFLINE takes its five steps and has one frame in the send list, in robot order; one that is OFFLINE takes none.
The unsent frames of the previous CYCLE are lost before, each counted for its robot and all in one TX_DROPPED event; after
it each change of context has its ROBOT_STATE event, in robot order, a robot LOST or expired raises ROBOT_FAULT, and the
records that an emptied queue names are FILL_UNKNOWN (R15, R37, R114, R117, R123, R124, R125, R127, R128, R134, R169). That
without a CYCLE_PULSE line the lines stand (log 28), and that the width is that of the configuration in force also where the
line still waits for its record (log 59), is the model's choice. -/
def Obligations.CycleAdvancesScheduleAndBanks : Prop :=
  ∀ (s : State) (c : Settings) (d : Time), s.cfg = some c → s.time.nextCycle = some d → reached d s.time.now = true →
    ∃ t, exec .cycle s = .next t ∧
      t.time = { s.time with cycleNumber := s.time.cycleNumber + 1, lastCycle := some d,
                             nextCycle := some (d + BitVec.ofNat 64 (1000 * c.time.periodUs)) } ∧
      (∀ l : Fin 16, lineWith s .cyclePulse = some l →
        t.lines = { s.lines with cyclePulseEnd := some (d + BitVec.ofNat 64 (1000 * c.lines[l].pulseUs)) }) ∧
      (lineWith s .cyclePulse = none → t.lines = s.lines) ∧
      (∀ (r : Fin 8) (g : RobotCfg), c.robots[r] = some g → s.robots[r].context ≠ .offline →
        RobotAtCycle s t c g r d) ∧
      (∀ r : Fin 8, c.robots[r] = none ∨ s.robots[r].context = .offline →
        t.robots[r] = { s.robots[r] with txDropped := t.robots[r].txDropped } ∧
        t.track.queues[r] = s.track.queues[r]) ∧
      t.field.sendList.map (·.robot) =
        allRobots.filter (fun r => c.robots[r].isSome && s.robots[r].context != .offline) ∧
      UnsentAreLost ((cycling s c).flatMap fun x => contextEvents s x.1 (cycleContexts s x)) s t ∧
      Raises (if (cycling s c).any fun x => x.2.lost || x.2.expires then [flagRobotFault] else []) s t ∧
      Emptied (((cycling s c).filter fun x => x.2.emptied).flatMap fun x => s.track.queues[x.1]) s t ∧
      NoticeKept s t ∧ OnlyAsks [.time, .lines, .field, .robots, .track, .reject, .notice] s t

/-- TIME_CAPTURE: local time, the time state and the low byte written are latched, and the word shows TAKEN with that
byte (R18). -/
def Obligations.TimeCaptureLatches : Prop :=
  ∀ (s : State) (c : Settings) (w : Word), Serving s c →
    ∃ t, exec (.timeCapture w) s = .next t ∧
      t.time = { s.time with capture := some ⟨s.time.now, s.time.state, w.setWidth 8⟩ } ∧
      Stores (c.page + 41) (0x0100 ||| (w &&& 0x00FF)) s t ∧
      t.notice = { s.notice with status := s.notice.status.set 25 (0x0100 ||| (w &&& 0x00FF)) } ∧
      t.bus = (granting .processor s).bus ∧ Job.capture ∈ t.writer.queue ∧
      Only [.time, .sram, .notice, .bus, .writer] s t

/-! ### Container tracking (02) -/

/-- Every record before D is SUSPECT, with its waiting announcement; every other stands (R35). -/
def Sys2Proof.Claims.MarksSuspect (s t : State) : Prop :=
  t.track.ring.length = s.track.ring.length ∧
    (∀ (p : Nat) (x : Record), recordAt p s = some x →
      recordAt p t = some (if p < decidePos s then { x with suspect := true } else x)) ∧
    ∀ r : Fin 8, t.track.queues[r] = s.track.queues[r].map fun a =>
      if (s.track.ring.take (decidePos s)).any (·.seq == a.seq) then { a with suspect := true } else a

/-- An illegal transition is not counted and moves no accumulator: the error count, one ENCODER_ERROR event, every
record before D SUSPECT, the new pair the last pair; the stop timeout and the line state stand (R24). -/
def Obligations.IllegalTransitionMarksSuspect : Prop :=
  ∀ (s : State) (a b : Bool), s.bus.device = .active → a ≠ s.track.pairA → b ≠ s.track.pairB →
    let t := encoderEdge a b s
    t.track = { s.track with pairA := a, pairB := b, encoderErrors := satInc s.track.encoderErrors,
                             ring := t.track.ring, queues := t.track.queues } ∧
      MarksSuspect s t ∧
      (∀ x, recordAt 0 s = some x → Logs .encoderError 0 1 (x.seq.setWidth 16) s t) ∧
      Raises [] s t ∧ NoticeKept s t ∧ OnlyAsks [.track, .notice] s t

/-- The pair (A, B) that follows a pair in the forward order, true for high: under A_LEADS from (low, low) to (high, low) to
(high, high) to (low, high) and back, under B_LEADS the other way (02, 2.1). -/
def Sys2Proof.Claims.forwardPair (bLeads : Bool) : Bool × Bool → Bool × Bool
  | (false, false) => if bLeads then (false, true) else (true, false)
  | (true, false) => if bLeads then (false, false) else (true, true)
  | (true, true) => if bLeads then (true, false) else (false, true)
  | (false, true) => if bLeads then (true, true) else (false, false)

/-- A legal encoder edge counts, forward in the order of the encoder sense: forward the accumulator grows by 256, reverse
it falls by 256; where neither a pitch nor the reverse limit is reached nothing else moves. Where the pitch length is
reached it is taken from the accumulator and the pitch event follows. A reverse count below −P leaves −P; the first of an
excursion is counted and reported with the number at position 0, and marks the records before D SUSPECT (R23, R25, R26,
R27). -/
def Obligations.LegalEdgesCount : Prop :=
  ∀ (s : State) (c : Settings) (a b : Bool), s.bus.device = .active → s.cfg = some c →
    ((a ≠ s.track.pairA ∧ b = s.track.pairB) ∨ (a = s.track.pairA ∧ b ≠ s.track.pairB)) →
    let t := encoderEdge a b s
    let next := forwardPair c.track.bLeads (s.track.pairA, s.track.pairB)
    ((a, b) = next → s.track.acc + 256 < c.track.pitchLen →
      t.track.acc = s.track.acc + 256 ∧ t.track.excursion = (s.track.excursion && decide (s.track.acc + 256 < 0)) ∧
        t.track = { s.track with pairA := a, pairB := b, acc := t.track.acc, excursion := t.track.excursion } ∧
        Only [.track] s t) ∧
      ((a, b) = next → c.track.pitchLen ≤ s.track.acc + 256 →
        t = pitchEvent { s with track := { s.track with
          pairA := a, pairB := b, acc := s.track.acc + 256 - c.track.pitchLen, excursion := false } } ∧
          t.track.acc = s.track.acc + 256 - c.track.pitchLen ∧ t.track.nextSeq = s.track.nextSeq + 1 ∧
          t.track.running = true ∧ t.track.lastPitch = some s.time.now) ∧
      ((a, b) ≠ next → -(c.track.pitchLen : Int) ≤ s.track.acc - 256 →
        t.track = { s.track with pairA := a, pairB := b, acc := s.track.acc - 256 } ∧ Only [.track] s t) ∧
      ((a, b) ≠ next → s.track.acc - 256 < -(c.track.pitchLen : Int) →
        (s.track.excursion = true →
          t.track = { s.track with pairA := a, pairB := b, acc := -(c.track.pitchLen : Int) } ∧ Only [.track] s t) ∧
        (s.track.excursion = false →
          t.track = { s.track with
            pairA := a, pairB := b, acc := -(c.track.pitchLen : Int), excursion := true
            reverseLimits := satInc s.track.reverseLimits, ring := t.track.ring, queues := t.track.queues } ∧
            MarksSuspect s t ∧
            (∀ x, recordAt 0 s = some x →
              Logs .reverseLimit 0 (x.seq.setWidth 16) ((x.seq >>> 16).setWidth 16) s t) ∧
            Raises [] s t ∧ NoticeKept s t ∧ OnlyAsks [.track, .notice] s t))

/-- The record that comes to a position at a pitch event: at 0 the one that enters, with the next number and the present
time and quality, EMPTY by the presence level, else of the robot that the rota gives; above 0 the one from the position
below (R33, R34). -/
def Sys2Proof.Claims.arriving (s : State) (p : Nat) : Option Record :=
  match p with
  | 0 => some (freshRecord s.track.nextSeq s.time.now s.time.state (presenceEmpty s)
      (if presenceEmpty s then none else rotaRobot s s.track.nextSeq))
  | k + 1 => recordAt k s

/-- The record of robot `r`, not EMPTY, that comes to the place `off` positions after the robot's station. -/
def Sys2Proof.Claims.atStation (s : State) (c : Settings) (r : Fin 8) (off : Nat) : Option Record :=
  match c.robots[r] with
  | some g => (arriving s (g.station + off)).filter fun x => !x.empty && x.robot == some r
  | none => none

/-- A record that comes to position `p` meets, `off` positions after its robot's station, a robot with a property. -/
def Sys2Proof.Claims.meets (c : Settings) (p off : Nat) (x : Record) (P : Fin 8 → Bool) : Bool :=
  allRobots.any fun r => P r && x.robot == some r && !x.empty &&
    (match c.robots[r] with | some g => g.station + off == p | none => false)

/-- A RUNNING robot's announcement queue is full (R36). -/
def Sys2Proof.Claims.queueFull (s : State) (r : Fin 8) : Bool :=
  s.robots[r].context == .running && decide (4 ≤ s.track.queues[r].length)

/-- Each record that comes to a position of the ring keeps its number, stamps and content. The station marks are added:
UNANNOUNCED with a full queue, FILL_UNKNOWN at a robot that is not RUNNING, FILL_MISSING at the end of a fill window with
no fill result (R33, R34, R36, R39). -/
def Sys2Proof.Claims.RecordsAtPitch (s t : State) (c : Settings) : Prop :=
  ∀ (p : Nat) (x : Record), arriving s p = some x → p < s.track.ring.length →
    ∃ y, recordAt p t = some y ∧ y.seq = x.seq ∧ y.entry = x.entry ∧ y.quality = x.quality ∧ y.robot = x.robot ∧
      y.empty = x.empty ∧ y.suspect = x.suspect ∧ y.forced = x.forced ∧ y.fill = x.fill ∧
      (Numbered s →
        y.unannounced = (x.unannounced || meets c p 0 x (queueFull s)) ∧
        y.fillUnknown = (x.fillUnknown || meets c p 0 x fun r => s.robots[r].context != .running) ∧
        y.fillMissing = (x.fillMissing || (meets c p c.track.fillWindow x (fun _ => true) && x.fill.isNone)))

/-- The pitch period estimate: the pitch event that makes the line RUNNING measures nothing and clears it; each later one
measures the time since the last pitch, clamped into the range, which is the estimate at first and moves it by
floor((m − Π) / 2^s) after that. The change to RUNNING raises its flag and appends LINE_STATE (R27, R29, R30; as the first
event of the pitch event by the model's choice, log 42). -/
def Sys2Proof.Claims.EstimateAtPitch (s t : State) (c : Settings) : Prop :=
  (s.track.running = false → t.track.runPitches = 1 ∧ t.track.intervals = 0 ∧ t.track.period = none ∧
    t.track.overspeeds = s.track.overspeeds ∧ t.notice.flags.getLsbD flagLineState = true ∧
    LogsFirst [⟨.lineState, 0, s.time.now, s.time.state, 1, 0⟩] s t) ∧
  ∀ (d : Time) (m : Int), s.track.running = true → s.track.lastPitch = some d →
    let raw := (s.time.now - d).toInt
    let lo : Int := 1000 * c.track.periodMinUs
    let hi : Int := 1000 * c.track.periodMaxUs
    (raw < lo ∧ m = lo) ∨ (lo ≤ raw ∧ raw ≤ hi ∧ m = raw) ∨ (lo ≤ hi ∧ hi < raw ∧ m = hi) →
    t.track.runPitches = satInc s.track.runPitches ∧
      t.track.overspeeds = (if raw < lo then satInc s.track.overspeeds else s.track.overspeeds) ∧
      (s.track.intervals = 0 → t.track.intervals = 1 ∧ t.track.period = some m.toNat) ∧
      (s.track.intervals ≠ 0 → t.track.intervals = 2 ∧
        ∀ q : Nat, s.track.period = some q → t.track.period = some (q + (m - q) / 2 ^ c.track.shift : Int).toNat)

/-- The stations: a record that comes to the station of its RUNNING robot joins the robot's announcement queue, but for a
full one, which is counted; one that comes to a robot that is not RUNNING, and one that ends its fill window with no fill
result, is counted (R36, R39). -/
def Sys2Proof.Claims.StationsAtPitch (s t : State) (c : Settings) : Prop :=
  let grows := fun (a : Word) (P : Fin 8 → Bool) => BitVec.ofNat 16 (min (a.toNat + (allRobots.filter P).length) 65535)
  (∀ r : Fin 8, t.track.queues[r] =
    match atStation s c r 0 with
    | some x =>
      if s.robots[r].context = .running ∧ s.track.queues[r].length < 4 then s.track.queues[r] ++ [⟨x.seq, x.suspect⟩]
      else s.track.queues[r]
    | none => s.track.queues[r]) ∧
  t.track.unannounceds = grows s.track.unannounceds (fun r => (atStation s c r 0).isSome && queueFull s r) ∧
  t.track.fillUnknowns =
    grows s.track.fillUnknowns (fun r => (atStation s c r 0).isSome && s.robots[r].context != .running) ∧
  t.track.fillMissings =
    grows s.track.fillMissings (fun r => (atStation s c r c.track.fillWindow).any (·.fill.isNone))

/-- The settings of check 8 that a pitch event rests on: every place of work lies in the ring (R184). -/
def Sys2Proof.Claims.PlacesFit (c : Settings) : Prop :=
  c.track.decidePos + 1 ≤ c.eject.pos ∧ c.eject.pos + 2 ≤ c.track.len ∧
    (∀ (k : Fin 4) (g : CameraCfg), c.cameras[k] = some g → g.pos < c.track.decidePos) ∧
    ∀ (r : Fin 8) (g : RobotCfg), c.robots[r] = some g → g.station + c.track.fillWindow ≤ c.track.decidePos

/-- There is room in the ejector list, so that no entry is displaced, and no record waiting to be written shares a number
with one of the ring (R70, R76). -/
def Sys2Proof.Claims.ListsFit (s : State) : Prop :=
  s.reject.list.length ≤ 2 ∧
    ∀ h ∈ s.reject.exitQueue, h.seq ≠ s.track.nextSeq ∧ ∀ x ∈ s.track.ring, h.seq ≠ x.seq

/-- Records written to an outcome ring of `n` slots at address `base`, one after the other from a write index on: the write
index after them, how many find the ring full and are dropped, and the write-outs of the others (R78). -/
def Sys2Proof.Claims.outcomesWritten (n readIx base : Nat) : Nat → List Record → Nat × Nat × List Job
  | ix, [] => (ix, 0, [])
  | ix, x :: xs =>
    let next := (ix + 1) % n
    if next = readIx then
      let rest := outcomesWritten n readIx base ix xs
      (rest.1, rest.2.1 + 1, rest.2.2)
    else
      let rest := outcomesWritten n readIx base next xs
      (rest.1, rest.2.1, .outcome (base + 16 * ix) (outcomeWords x) next :: rest.2.2)

/-- A record `z` leaves the ring while the exit queue holds 8, its head `h` with an entry in the ejector list: the entry
leaves that list, the confirmation of `h` is UNKNOWN and counted, and EJECT_FAULT raised; `h` is written at once, then every
settled record that follows it, up to the first with an entry of its own; `z` stands at the end of what stays (R77, R78). -/
def Sys2Proof.Claims.HeadGivenUp (s t : State) (c : Settings) (h z : Record) (hs : List Record) : Prop :=
  let settled := fun x : Record => !(s.reject.list.any fun e => e.seq == x.seq)
  let w := outcomesWritten (outcomeSlots s) s.reject.readIx (regionBase c .outcomeRing none) s.reject.writeIx
    ({ h with confirm := some .unknown } :: (hs ++ [z]).takeWhile settled)
  (∀ e ∈ t.reject.list, e.seq ≠ h.seq) ∧ t.reject.exitQueue = (hs ++ [z]).dropWhile settled ∧
    t.reject.unknown = satInc s.reject.unknown ∧ t.notice.flags.getLsbD flagEjectFault = true ∧
    t.reject.writeIx = w.1 ∧ t.reject.dropped = BitVec.ofNat 16 (min 65535 (s.reject.dropped.toNat + w.2.1)) ∧
    (0 < w.2.1 → t.notice.flags.getLsbD flagOutcomeDropped = true) ∧ w.2.2 <:+ t.writer.queue

/-- The record that leaves the ring, in ACTIVE: EMPTY it is dropped; else it joins the exit queue, and waits there behind
an unsettled head or with an entry of its own in the ejector list; with neither it is written to the outcome ring, its
slot reserved and its words asked for, or dropped and counted where that ring is full; an exit queue that holds 8 gives up
its head first (R33, R76, R77, R78). -/
def Sys2Proof.Claims.ExitAtPitch (s t : State) (c : Settings) : Prop :=
  ∀ z : Record, s.track.ring.getLast? = some z → s.bus.device = .active → Numbered s → PlacesFit c → ListsFit s →
    let waits := fun q : List Record =>
      t.reject.exitQueue = q ∧ t.reject.writeIx = s.reject.writeIx ∧ t.reject.dropped = s.reject.dropped
    let entry := fun x : Record => ∃ e ∈ s.reject.list, e.seq = x.seq
    (z.empty = true → waits s.reject.exitQueue) ∧
    (z.empty = false →
      (∀ h hs, s.reject.exitQueue = h :: hs → entry h →
        (s.reject.exitQueue.length < 8 → waits (s.reject.exitQueue ++ [z])) ∧
        (8 ≤ s.reject.exitQueue.length → (∀ x ∈ hs, x.seq ≠ h.seq) → HeadGivenUp s t c h z hs)) ∧
      (s.reject.exitQueue = [] → entry z → waits [z]) ∧
      (s.reject.exitQueue = [] → ¬ entry z → t.reject.exitQueue = [] ∧
        (outcomeRingFull s = true → t.reject.dropped = satInc s.reject.dropped ∧
          t.reject.writeIx = s.reject.writeIx ∧ t.notice.flags.getLsbD flagOutcomeDropped = true) ∧
        (outcomeRingFull s = false → t.reject.dropped = s.reject.dropped ∧
          t.reject.writeIx = (s.reject.writeIx + 1) % outcomeSlots s ∧
          Job.outcome (regionBase c .outcomeRing none + 16 * s.reject.writeIx) (outcomeWords z)
            ((s.reject.writeIx + 1) % outcomeSlots s) ∈ t.writer.queue)))

/-- A pitch event moves the ring by one position: a new record with the next number and the present time enters at
position 0, every record keeps its number, stamps and content one position on, and the line is RUNNING with its stop
timeout restarted; a change to RUNNING is reported first (by the model's choice, log 42). The period estimate follows the
time measured, the stations announce and mark the records that reach them, and the record that leaves is written, waits or
is dropped; where it finds 8 records in the exit queue the head of that queue is given up and written with the settled
ones behind it. Its cameras and ejections are stated with the camera slots and with the decision (R27, R28, R29, R30, R33,
R34, R36, R39, R76, R77, R78). -/
def Obligations.PitchEventMovesTheRing : Prop :=
  ∀ (s : State) (c : Settings), s.cfg = some c → s.track.ring ≠ [] →
    let t := pitchEvent s
    t.track.ring.length = s.track.ring.length ∧ t.track.nextSeq = s.track.nextSeq + 1 ∧ RecordsAtPitch s t c ∧
      t.track.running = true ∧ t.track.lastPitch = some s.time.now ∧
      t.track.stopAt = some (s.time.now + BitVec.ofNat 64 (c.track.stopMs * 1000000)) ∧
      EstimateAtPitch s t c ∧ StationsAtPitch s t c ∧ ExitAtPitch s t c

/-- What STOPPED makes of the ejector list: every ARMED entry leaves it. Its record at E − 1 becomes ON_PITCH; its record at E
is missed, which is counted, and reported after LINE_STATE in the order of the list; every other record stands (R74; the
order of the events, log 42). -/
def Sys2Proof.Claims.CancelledAtStop (s t : State) (c : Settings) : Prop :=
  let armed := s.reject.list.filter fun e => e.deadline.isNone
  let at0 := fun (p : Nat) (e : EjectEntry) => (recordAt p s).any fun x => x.seq == e.seq
  let missed := armed.filter (at0 c.eject.pos)
  t.reject = { s.reject with
    list := s.reject.list.filter fun e => !(armed.any fun d => d.seq == e.seq)
    missed := BitVec.ofNat 16 (min 65535 (s.reject.missed.toNat + missed.length))
    exitQueue := t.reject.exitQueue } ∧
  (∀ (p : Nat) (x : Record), recordAt p s = some x →
    ((armed.any fun d => d.seq == x.seq) = true →
      (p = c.eject.pos → recordAt p t = some { x with ejection := some .missed }) ∧
      (p + 1 = c.eject.pos → recordAt p t = some { x with ejection := some .onPitch })) ∧
    ((armed.any fun d => d.seq == x.seq) = false → recordAt p t = some x)) ∧
  LogsAll (⟨.lineState, 0, s.time.now, s.time.state, 0, s.track.runPitches⟩ ::
    missed.map fun e => ⟨.ejectFault, 0, s.time.now, s.time.state, 2, e.seq.setWidth 16⟩) s t ∧
  Raises (flagLineState :: if missed = [] then [] else [flagEjectFault]) s t

/-- STOP_TIMEOUT: a RUNNING line with its stop timeout reached becomes STOPPED and holds no stop timeout; every ARMED entry
is cancelled, its record at E − 1 left ON_PITCH, its record at E missed, counted and reported; with none to cancel the one
event is LINE_STATE with the run's pitch count (R27, R28, R74; the order of the events, log 42). -/
def Obligations.StopTimeoutStopsTheLine : Prop :=
  ∀ s : State, s.track.running = true → due s.track.stopAt s.time.now = true →
    ∃ t, exec .stopTimeout s = .next t ∧ t.track.running = false ∧ t.track.stopAt = none ∧
      (∀ e ∈ t.reject.list, e.deadline.isSome = true) ∧ t.notice.flags.getLsbD flagLineState = true ∧
      ((∀ e ∈ s.reject.list, e.deadline.isSome = true) →
        t.track = { s.track with running := false, stopAt := none } ∧ t.reject = s.reject ∧
          Logs .lineState 0 0 s.track.runPitches s t ∧ Raises [flagLineState] s t) ∧
      (∀ c : Settings, s.cfg = some c → Numbered s → CancelledAtStop s t c) ∧
      NoticeKept s t ∧ OnlyAsks [.track, .reject, .notice] s t

/-- MARK_LOW and MARK: the latch takes the word; a mark finds its record by the word above the latch: below D and not
EMPTY it is FORCED and counted once, else the mark is ignored with UNKNOWN, TOO_LATE or EMPTY (R40). -/
def Obligations.MarkForcesTheRecord : Prop :=
  ∀ (s : State) (c : Settings) (w : Word), Serving s c →
    (∃ t, exec (.markLow w) s = .next t ∧ t.track = { s.track with markLatch := w } ∧ Answers c 19 w [.track] s t ∧
      LogsNothing s t ∧ Raises [] s t) ∧
    let q : Seq := w ++ s.track.markLatch
    (∀ (p : Nat) (x : Record), positionOf q s = some p → recordAt p s = some x → p < c.track.decidePos →
      x.empty = false →
      ∃ t, exec (.mark w) s = .next t ∧
        t.track = { s.track with
          ring := s.track.ring.map fun y => if y.seq = x.seq then { y with forced := true } else y
          forceds := if x.forced then s.track.forceds else satInc s.track.forceds } ∧
        t.reject = { s.reject with exitQueue := t.reject.exitQueue } ∧ Answers c 20 0x1000 [.track, .reject] s t ∧
        LogsNothing s t ∧ Raises [] s t) ∧
    ∀ reason : Word,
      ((positionOf q s = none ∧ reason = 2) ∨
        (∃ p x, positionOf q s = some p ∧ recordAt p s = some x ∧
          ((c.track.decidePos ≤ p ∧ reason = 1) ∨ (p < c.track.decidePos ∧ x.empty = true ∧ reason = 3)))) →
      ∃ t, exec (.mark w) s = .next t ∧ Answers c 20 reason [] s t ∧
        Logs .requestIgnored 36 reason s.track.markLatch s t ∧ Raises [] s t

/-- LINE_RESET while STOPPED: the ring is refilled with L EMPTY records from the next number, entered now; the queues, the
trigger lists, the ejector list and the exit queue are cleared; one LINE_RESET event counts the records discarded. While
RUNNING it is ignored with LINE_RUNNING (R43, R59, R83). -/
def Obligations.LineResetRefillsTheRing : Prop :=
  ∀ (s : State) (c : Settings), Serving s c →
    (s.track.running = false →
      ∃ t, exec .lineReset s = .next t ∧ t.track.ring.length = c.track.len ∧
        (∀ (p : Nat) (x : Record), recordAt p t = some x →
          x.seq = s.track.nextSeq + BitVec.ofNat 32 (c.track.len - 1 - p) ∧ x.empty = true ∧ x.entry = s.time.now) ∧
        t.track = { s.track with ring := t.track.ring, nextSeq := s.track.nextSeq + BitVec.ofNat 32 c.track.len,
                                 queues := Vector.replicate 8 [], acc := 0, excursion := false } ∧
        (∀ k : Fin 4, t.cameras[k] = { s.cameras[k] with pending := [] }) ∧
        t.reject = { s.reject with list := [], exitQueue := [] } ∧
        Logs .lineReset 0 (BitVec.ofNat 16 (min ((s.track.ring.filter fun x => !x.empty).length
          + s.reject.exitQueue.length) 65535)) 1 s t ∧
        Raises [] s t ∧ Answers c 24 0x0101 [.track, .cameras, .reject] s t) ∧
    (s.track.running = true →
      ∃ t, exec .lineReset s = .next t ∧ Logs .requestIgnored 40 9 1 s t ∧ Raises [] s t ∧ Answers c 24 1 [] s t)

/-! ### Cameras (03) and rejection (04) -/

/-- A line with a function and a record that waited takes that record afresh: its level from the pin, no debounce in
progress (R167, R174). -/
def Sys2Proof.Claims.TakesRecord (f : LineFn) (s t : State) : Prop :=
  ∀ (l : Fin 16) (old new : LineCfg), s.lines.line[l].record = some old → old.fn = f →
    s.lines.line[l].deferred = some new →
    let level := xor s.lines.line[l].pin new.activeLow
    t.lines.line[l] = { s.lines.line[l] with
      record := some new, deferred := none, accepted := level, candidate := level, debounceEnd := none }

/-- TRIGGER_PULSE_END, CAMERA_READY, EJECTOR_PULSE_END and CYCLE_PULSE_END: at its time the pulse end, or the ready time,
is cleared; a line record that waited for the pulse is taken; with no record waiting nothing else moves, but that the
ejector list's entries are no longer in the pulse (R47, R69, R169, R174; the ready time as an event, log 27). -/
def Obligations.PulsesAndReadyTimesEnd : Prop :=
  (∀ (s : State) (c : Fin 4),
    (due s.cameras[c].pulseEnd s.time.now = true →
      ∃ t, exec (.triggerPulseEnd c) s = .next t ∧
        t.cameras = s.cameras.set c { s.cameras[c] with pulseEnd := none } ∧
        TakesRecord (.trigger c) s t ∧
        ((∀ l : Fin 16, s.lines.line[l].deferred = none) → OnlyAsks [.cameras] s t)) ∧
    (due s.cameras[c].readyAt s.time.now = true →
      exec (.cameraReady c) s = .next { s with cameras := s.cameras.set c { s.cameras[c] with readyAt := none } })) ∧
  ∀ s : State,
    let none0 := ∀ l : Fin 16, s.lines.line[l].deferred = none
    (due s.reject.pulseEnd s.time.now = true →
      ∃ t, exec .ejectorPulseEnd s = .next t ∧ t.reject.pulseEnd = none ∧
        t.reject.list = (s.reject.list.map fun e => { e with inPulse := false }) ∧ TakesRecord .ejector s t ∧
        (none0 → t.reject = { s.reject with pulseEnd := none, list := t.reject.list } ∧ OnlyAsks [.reject] s t)) ∧
    (due s.lines.cyclePulseEnd s.time.now = true →
      ∃ t, exec .cyclePulseEnd s = .next t ∧ t.lines.cyclePulseEnd = none ∧ TakesRecord .cyclePulse s t ∧
        (none0 → t.lines = { s.lines with cyclePulseEnd := none } ∧ OnlyAsks [.lines] s t))

/-- The record that reaches D has its slot of camera `k` WAITING (R55). -/
def Sys2Proof.Claims.expires (s : State) (c : Settings) (k : Fin 4) : Bool :=
  (arriving s c.track.decidePos).any fun z => !z.empty && z.slots[k].state == .waiting

/-- A camera after the expiry of a pitch event: the entry of the record that reaches D with its slot WAITING is EXPIRED,
and the missing count grows (R55). -/
def Sys2Proof.Claims.afterExpiry (s : State) (c : Settings) (k : Fin 4) : Camera :=
  match arriving s c.track.decidePos with
  | some z =>
    if expires s c k then
      { s.cameras[k] with
        missings := satInc s.cameras[k].missings
        pending := s.cameras[k].pending.map fun e => if e.seq = z.seq then { e with state := .expired } else e }
    else s.cameras[k]
  | none => s.cameras[k]

/-- The record that camera `k` selects at a pitch event: the one that comes to its position, not EMPTY, with a number
that passes its filter (R45). -/
def Sys2Proof.Claims.selected (s : State) (c : Settings) (k : Fin 4) : Option Record :=
  match c.cameras[k] with
  | some g => (arriving s g.pos).filter fun x => !x.empty && x.seq.toNat % 2 ^ g.exponent == g.residue
  | none => none

/-- The slot of camera `k` in the record with a number. -/
def Sys2Proof.Claims.SlotIs (t : State) (k : Fin 4) (q : Seq) (x : SlotState) : Prop :=
  ∀ y ∈ t.track.ring, y.seq = q → y.slots[k] = ⟨x, [], false, false⟩

/-- The event of a pitch event that makes the line RUNNING (R27). -/
def Sys2Proof.Claims.lineEvents (s : State) : List Event :=
  if s.track.running then [] else [eventNow s .lineState 0 1 0]

/-- The CAMERA_FAULT events of a pitch event: camera in the high byte and cause in the low byte of the first detail word, the
low word of the record's number in the second. An expiry is MISSING, camera 0 first, a skip is SKIPPED (R47, R55, R56; every
expiry before any skip, and the skips in number order, log 42). -/
def Sys2Proof.Claims.cameraEvents (s : State) (c : Settings) : List Event :=
  let fault := fun (k : Fin 4) (cause : Nat) (x : Record) =>
    eventNow s .cameraFault (BitVec.ofNat 16 k.val) (BitVec.ofNat 16 (256 * k.val + cause)) (x.seq.setWidth 16)
  (allCameras.filter fun k => expires s c k).flatMap (fun k => (arriving s c.track.decidePos).toList.map (fault k 3)) ++
    (allCameras.filter fun k => s.cameras[k].readyAt.isSome).flatMap fun k => (selected s c k).toList.map (fault k 4)

/-- A camera at a pitch event: a WAITING slot of the record that reaches D expires to MISSING; the record it selects is
triggered when it is ready, its slot WAITING and a pulse and a ready time begun, and skipped when not, its slot MISSING
and counted; a missing or a skip raises CAMERA_FAULT and is reported, after the change of line state and before every other
event. Every other slot stands (R45, R46, R47, R48, R55, R56; the order of the events, log 42). That a camera whose ready
time is reached, and still held, is not ready is the model's choice (log 27). -/
def Sys2Proof.Claims.CamerasAtPitch (s t : State) (c : Settings) : Prop :=
  LogsFirst (lineEvents s ++ cameraEvents s c) s t ∧
  t.notice.flags.getLsbD flagCameraFault = (s.notice.flags.getLsbD flagCameraFault || !(cameraEvents s c).isEmpty) ∧
  ∀ k : Fin 4,
    let m := s.cameras[k]
    let m1 := afterExpiry s c k
    let faulted := t.notice.flags.getLsbD flagCameraFault = true
    (selected s c k = none → t.cameras[k] = m1) ∧
    (∀ z, arriving s c.track.decidePos = some z → expires s c k = true →
      faulted ∧ ((∀ x, selected s c k = some x → x.seq ≠ z.seq) → SlotIs t k z.seq .missing)) ∧
    (∀ (g : CameraCfg) (x : Record), c.cameras[k] = some g → selected s c k = some x →
      (m.readyAt = none →
        t.cameras[k] = { m1 with
          triggers := m.triggers + 1
          pulseEnd := some (s.time.now + BitVec.ofNat 64 (1000 * g.pulseUs))
          readyAt := some (s.time.now + BitVec.ofNat 64 (2000 * g.pulseUs))
          pending := (if 16 ≤ m1.pending.length then m1.pending.tail else m1.pending)
            ++ [⟨m.triggers + 1, x.seq, s.time.now, s.time.state, .waiting⟩] } ∧
        SlotIs t k x.seq .waiting) ∧
      (m.readyAt.isSome = true →
        t.cameras[k] = { m1 with missings := satInc m1.missings } ∧ SlotIs t k x.seq .missing ∧ faulted)) ∧
    (Numbered s → ∀ (p : Nat) (x y : Record), arriving s p = some x → recordAt p t = some y →
      (p = c.track.decidePos → expires s c k = false) → selected s c k ≠ some x → y.slots[k] = x.slots[k])

/-- A VERDICT frame admitted from port `p` for camera `k`, received whole, the camera configured. That it is held for the
camera of its admission, whatever role the port has now, is the model's reading (log 16). -/
def Sys2Proof.Claims.VerdictFrame (s : State) (g : Settings) (x : CameraCfg) (k : Fin 4) (p : Fin 16) (rx : Receiving) :
    Prop :=
  s.bus.device = .active ∧ s.cfg = some g ∧ g.cameras[k] = some x ∧ s.field.receiving = some rx ∧
    rx.stage = .held p (.verdict k)

/-- The form of a VERDICT: the 8 bytes of the fixed part, a code of PASS, FAIL or UNSURE, at most 15 defects declared
(R50). -/
def Sys2Proof.Claims.VerdictFormed (bs : List Byte) : Prop :=
  27 ≤ bs.length ∧ (byteAt bs 20 = 1 ∨ byteAt bs 20 = 2 ∨ byteAt bs 20 = 3) ∧ (byteAt bs 21).toNat ≤ 15

/-- The slot that a VERDICT gives under a stored defect maximum: its code, the first codes carried, TRUNCATED when more were
carried, SHORT when fewer were carried than declared (R51, R52). -/
def Sys2Proof.Claims.verdictGives (bs : List Byte) (most : Nat) : Slot :=
  let declared := (byteAt bs 21).toNat
  let carried := min declared ((bs.length - 27) / 2)
  { state := if byteAt bs 20 = 1 then .pass else if byteAt bs 20 = 2 then .fail else .unsure
    defects := (List.range (min most carried)).map fun i => be16 bs (27 + 2 * i)
    truncated := decide (most < carried)
    short := decide (carried < declared) }

/-- The frame is counted at its port and gone, of the cameras `k` becomes `y`, and its status is rewritten (R50, R53, R54,
R57). -/
def Sys2Proof.Claims.VerdictTaken (s t : State) (k : Fin 4) (p : Fin 16) (y : Camera) : Prop :=
  t.cameras = s.cameras.set k y ∧ t.field = { s.field with receiving := none } ∧
    t.switch = { s.switch with
      ports := s.switch.ports.set p { s.switch.ports[p] with admitted := s.switch.ports[p].admitted + 1 } } ∧
    Job.mirror (.camera k) ∈ t.writer.queue ∧ NoticeKept s t

/-- A slot of a record: a pitch event opens it by a trigger, or leaves it MISSING by a skip or an expiry; then
FRAME_RECEPTION_END of an admitted VERDICT, its check good. A well-formed body whose trigger count names a WAITING entry
fills the camera's slot of that record and answers the entry; the latency is the time since the trigger, in µs. A malformed
one, an unmatched one, a duplicate and a late one are counted and change no record, the unmatched and the late one
reported (R45, R46, R47, R48, R50, R51, R52, R53, R54, R55, R56; a ready time reached and still held, log 27; that a VERDICT
belongs to the camera its port's role named at admission is the model's reading, log 16). -/
def Obligations.VerdictFillsTheSlot : Prop :=
  (∀ (s : State) (c : Settings), s.cfg = some c → s.track.ring ≠ [] → CamerasAtPitch s (pitchEvent s) c) ∧
  ∀ (s : State) (g : Settings) (k : CameraCfg) (c : Fin 4) (p : Fin 16) (rx : Receiving), VerdictFrame s g k c p rx →
    let m := s.cameras[c]
    let n := byteAt rx.bytes 19
    let marked := fun x : TrigState => m.pending.map fun e => if e.count = n then { e with state := x } else e
    let counted := fun y : Camera => ∃ t, exec (.frameReceptionEnd (some (Config.frameCheck rx.bytes))) s = .next t ∧
      VerdictTaken s t c p y ∧ LogsNothing s t ∧ Raises [] s t ∧ OnlyAsks [.cameras, .field, .switch, .notice] s t
    let reported := fun (y : Camera) (cause second : Word) =>
      ∃ t, exec (.frameReceptionEnd (some (Config.frameCheck rx.bytes))) s = .next t ∧ VerdictTaken s t c p y ∧
        Logs .cameraFault (BitVec.ofNat 16 c.val) (BitVec.ofNat 16 (256 * c.val) ||| cause) second s t ∧
        Raises [flagCameraFault] s t ∧ OnlyAsks [.cameras, .field, .switch, .notice] s t
    (¬ VerdictFormed rx.bytes → counted { m with malformeds := satInc m.malformeds }) ∧
    (VerdictFormed rx.bytes → (∀ e ∈ m.pending, e.count ≠ n) →
      reported { m with unmatcheds := satInc m.unmatcheds } 2 (n.setWidth 16)) ∧
    ∀ e : Trigger, VerdictFormed rx.bytes → m.pending.find? (fun x => x.count == n) = some e →
      (e.state = .answered ∨ e.state = .lateAnswered → counted { m with duplicates := satInc m.duplicates }) ∧
      (e.state = .expired →
        reported { m with pending := marked .lateAnswered, lates := satInc m.lates } 1 (e.seq.setWidth 16)) ∧
      (e.state = .waiting →
        ∃ t, exec (.frameReceptionEnd (some (Config.frameCheck rx.bytes))) s = .next t ∧
          t.track.ring = (s.track.ring.map fun x =>
            if x.seq = e.seq then { x with slots := x.slots.set c (verdictGives rx.bytes k.defectMax) } else x) ∧
          t.track = { s.track with ring := t.track.ring } ∧
          VerdictTaken s t c p { m with
            pending := marked .answered
            latency := BitVec.ofInt 16 (max 0 (min 65535 ((s.time.now - e.time).toInt / 1000))) } ∧
          LogsNothing s t ∧ Raises [] s t ∧ OnlyAsks [.track, .cameras, .reject, .field, .switch, .notice] s t)

/-- A firing aimed `d` ns from now: ARMED with its time when the margin of 20,000 ns is left, else fired at once as
EJECT_LATE (R65, R66). -/
def Sys2Proof.Claims.aimed (s : State) (d : Int) : Option Ejection :=
  some (if 20000 ≤ d then .armed (s.time.now + BitVec.ofInt 64 d) else .fired .late s.time.now s.time.state)

/-- floor(f × Π / 256) − 1,000 × A. -/
def Sys2Proof.Claims.leadIn (c : Settings) (period : Nat) : Int :=
  ((c.eject.fraction * period / 256 : Nat) : Int) - 1000 * (c.eject.leadUs : Int)

/-- The ejection field of a record, not EMPTY, that comes to position `p`: at E + 1 an ARMED one is missed; at E one to
be fired on the pitch is fired and an ARMED one is aimed again; at E − 1 one that awaits its arming is aimed one pitch
ahead, or left for the pitch while the estimate is not settled (R65, R66, R67). -/
def Sys2Proof.Claims.ejectionAt (s t : State) (c : Settings) (p : Nat) (e : Option Ejection) : Option Ejection :=
  if p = c.eject.pos + 1 then (match e with | some (.armed _) => some .missed | _ => e)
  else if p = c.eject.pos then
    (match e with
     | some .onPitch => some (.fired .onPitch s.time.now s.time.state)
     | some (.armed _) => aimed s (leadIn c (t.track.period.getD 0))
     | _ => e)
  else if p + 1 = c.eject.pos then
    (match e, t.track.period with
     | some .awaitingArm, some q => if t.track.intervals = 2 then aimed s (q + leadIn c q) else some .onPitch
     | some .awaitingArm, none => some .onPitch
     | _, _ => e)
  else e

/-- An entry joins the list at its place in fire-time order, the older container first at equal times (R68, R70). That the
older is read from the sign of the sequence numbers' difference modulo 2^32 is the model's reading (DEDUCED, log 31). -/
def Sys2Proof.Claims.JoinsInOrder (e : EjectEntry) (l m : List EjectEntry) : Prop :=
  let first := fun x y : EjectEntry => (x.fire - y.fire).toInt < 0 ∨ (x.fire = y.fire ∧ (x.seq - y.seq).toInt < 0)
  ∃ as bs, l = as ++ bs ∧ m = as ++ e :: bs ∧ (∀ a ∈ as, ¬ first e a) ∧ ∀ b ∈ bs.head?, first e b

/-- An entry joins the list: with fewer than 4 entries no entry is displaced, else the earliest leaves it first (R70). -/
def Sys2Proof.Claims.Joins (e : EjectEntry) (l m drop : List EjectEntry) : Prop :=
  (l.length < 4 → drop = [] ∧ JoinsInOrder e l m) ∧
    ∀ x xs, l = x :: xs → 4 ≤ l.length → drop = [x] ∧ JoinsInOrder e (l.filter fun y => y.seq != x.seq) m

/-- What a pitch event does at the ejector for one record: nothing, a miss, a firing at once, or an aim at a time, the first
or a new one. -/
inductive Sys2Proof.Claims.EjectWork where
  | none
  | miss
  | fire (k : FireKind)
  | arm (f : Time)
  | aim (f : Time)
  deriving DecidableEq, Repr

/-- The work at position `p` on a record not EMPTY whose ejection field is `e`: at E + 1 an ARMED one is missed; at E one to
be fired on the pitch is fired and an ARMED one aimed again, at E − 1 one that awaits its arming is aimed under a settled
estimate; without the margin of 20,000 ns an aim is a firing EJECT_LATE (R65, R66, R67). -/
def Sys2Proof.Claims.workAt (s t : State) (c : Settings) (p : Nat) (e : Option Ejection) : EjectWork :=
  let timed := fun (x : Time → EjectWork) (d : Int) =>
    if 20000 ≤ d then x (s.time.now + BitVec.ofInt 64 d) else .fire .late
  if p = c.eject.pos + 1 then (match e with | some (.armed _) => .miss | _ => .none)
  else if p = c.eject.pos then
    (match e with
     | some .onPitch => .fire .onPitch
     | some (.armed _) => timed .aim (leadIn c (t.track.period.getD 0))
     | _ => .none)
  else
    (match e, t.track.period with
     | some .awaitingArm, some q => if t.track.intervals = 2 then timed .arm (q + leadIn c q) else .none
     | _, _ => .none)

/-- The list `l` becomes `m` by the work on the record with number `q`, a pulse in progress as given, and these events are
appended: MISSED for a miss, UNWATCHED for an entry displaced, and then LATE for a firing EJECT_LATE. A firing joins as
AWAITING where there is an EJECT_CONFIRM line, and the other entries of its pulse take its deadline (R65, R66, R67, R69, R70,
R73). -/
def Sys2Proof.Claims.Works (s : State) (c : Settings) (pulse : Bool) (w : EjectWork) (q : Seq) (l m : List EjectEntry)
    (es : List Event) : Prop :=
  let fault := fun (cause : Word) (n : Seq) => eventNow s .ejectFault 0 cause (n.setWidth 16)
  let confirms := allLines.any fun i => c.lines[i].fn == .ejectConfirm
  let until0 := s.time.now + BitVec.ofNat 64 (c.eject.pulseMs * 1000000) + BitVec.ofNat 64 (c.eject.confirmMs * 1000000)
  match w with
  | .none => m = l ∧ es = []
  | .miss => m = l.filter (fun y => y.seq != q) ∧ es = [fault 2 q]
  | .arm f => ∃ drop, Joins ⟨q, f, none, false⟩ l m drop ∧ es = drop.map fun y => fault 4 y.seq
  | .aim f => ∃ drop, Joins ⟨q, f, none, false⟩ (l.filter fun y => y.seq != q) m drop ∧
      es = drop.map fun y => fault 4 y.seq
  | .fire k =>
    let others := (l.map fun x =>
      if pulse && x.inPulse && x.deadline.isSome then { x with deadline := some until0 } else x).filter
        fun y => y.seq != q
    ∃ drop, (confirms = false → m = others ∧ drop = []) ∧
      (confirms = true → Joins ⟨q, s.time.now, some until0, true⟩ others m drop) ∧
      es = (drop.map fun y => fault 4 y.seq) ++ if k = .late then [fault 1 q] else []

/-- The ejector at a pitch event: the record leaving E, the one reaching E and the one reaching E − 1 are worked on in this
order, each on the list that the one before left. Late and on-pitch firings and misses are counted, none is a firing at its
fire time. After the line's and the cameras' events those of the three works are appended, and no other but one last:
where the record that leaves the ring, not EMPTY, finds 8 in the exit queue, the head's entry leaves the list and is reported
UNWATCHED. Each raises EJECT_FAULT (R65, R66, R67, R69, R70, R73, R77; the events of other blocks first, log 42). -/
def Sys2Proof.Claims.EjectorAtPitch (s t : State) (c : Settings) : Prop :=
  Numbered s → PlacesFit c →
    let field := fun (p : Nat) (x : Record) =>
      if p = c.track.decidePos then
        (match recordAt p t with
         | some y => if verdictOf s.reject.policy (reasonSet t y) = .reject then some Ejection.awaitingArm else none
         | none => none)
      else x.ejection
    let found := fun p : Nat => (arriving s p).filter fun x => !x.empty
    let work := fun p : Nat => (found p).elim EjectWork.none fun x => workAt s t c p (field p x)
    let number := fun p : Nat => (found p).elim 0 fun x => x.seq
    let e := c.eject.pos
    let works := [work (e + 1), work e, work (e - 1)]
    let joins := s.track.ring.getLast?.any fun z => !z.empty
    let grown := fun (n : Word) (w : EjectWork) => BitVec.ofNat 16 (min 65535 (n.toNat + works.count w))
    t.reject.missed = grown s.reject.missed .miss ∧ t.reject.late = grown s.reject.late (.fire .late) ∧
      t.reject.onPitch = grown s.reject.onPitch (.fire .onPitch) ∧ t.reject.fired = s.reject.fired ∧
      ∃ l1 l2 l3 es1 es2 es3,
        Works s c s.reject.pulseEnd.isSome (work (e + 1)) (number (e + 1)) s.reject.list l1 es1 ∧
        Works s c s.reject.pulseEnd.isSome (work e) (number e) l1 l2 es2 ∧
        Works s c (s.reject.pulseEnd.isSome || work e == .fire .late || work e == .fire .onPitch) (work (e - 1))
          (number (e - 1)) l2 l3 es3 ∧
        LogsFirst (lineEvents s ++ cameraEvents s c ++ es1 ++ es2 ++ es3) s t ∧
        (es1 ++ es2 ++ es3 ≠ [] → t.notice.flags.getLsbD flagEjectFault = true) ∧
        (s.reject.exitQueue.length < 8 ∨ joins = false → t.reject.list = l3 ∧
          LogsAll (lineEvents s ++ cameraEvents s c ++ es1 ++ es2 ++ es3) s t ∧
          (es1 ++ es2 ++ es3 = [] →
            t.notice.flags.getLsbD flagEjectFault = s.notice.flags.getLsbD flagEjectFault)) ∧
        ∀ h hs, s.reject.exitQueue = h :: hs → 8 ≤ s.reject.exitQueue.length → joins = true →
          s.reject.list.length ≤ 2 → (∃ d ∈ s.reject.list, d.seq = h.seq) →
          t.reject.list = (l3.filter fun y => y.seq != h.seq) ∧
            LogsAll (lineEvents s ++ cameraEvents s c ++ es1 ++ es2 ++ es3 ++
              [eventNow s .ejectFault 0 4 (h.seq.setWidth 16)]) s t ∧
            t.notice.flags.getLsbD flagEjectFault = true

/-- The ejections at a pitch event: the record that reaches D is decided by the policy and its reason set as they then
stand; the ejection field of every record follows its position; a firing sets the pulse, an aimed one has its entry in
the list, a missed one has none and is counted and reported (R33, R61, R62, R65, R66, R67, R69, R73). -/
def Sys2Proof.Claims.EjectionsAtPitch (s t : State) (c : Settings) : Prop :=
  Numbered s → PlacesFit c → ListsFit s →
  (∀ x, arriving s c.track.decidePos = some x → t.reject.decided =
    (if x.empty then s.reject.decided else satInc s.reject.decided)) ∧
  ∀ (p : Nat) (x y : Record), arriving s p = some x → recordAt p t = some y →
    let decides := p = c.track.decidePos ∧ x.empty = false
    let e := if decides then (if verdictOf s.reject.policy (reasonSet t y) = .reject then some .awaitingArm else none)
             else x.ejection
    (decides → y.decision = some ⟨verdictOf s.reject.policy (reasonSet t y), reasonSet t y⟩) ∧
    (¬ decides → y.decision = x.decision) ∧
    (x.empty = true → y.ejection = x.ejection) ∧
    (x.empty = false → y.ejection = ejectionAt s t c p e ∧
      (∀ k, y.ejection = some (.fired k s.time.now s.time.state) → y.ejection ≠ e →
        t.reject.pulseEnd = some (s.time.now + BitVec.ofNat 64 (c.eject.pulseMs * 1000000))) ∧
      (∀ f, y.ejection = some (.armed f) → (p = c.eject.pos ∨ (p + 1 = c.eject.pos ∧ e = some .awaitingArm)) →
        ⟨x.seq, f, none, false⟩ ∈ t.reject.list) ∧
      (p = c.eject.pos + 1 → (∃ f, x.ejection = some (.armed f)) →
        (∀ d ∈ t.reject.list, d.seq ≠ x.seq) ∧ t.reject.missed = satInc s.reject.missed ∧
          t.notice.flags.getLsbD flagEjectFault = true))

/-- The reasons of a record, each with its condition, numbered from 0 in the order of R61's table: a FAIL slot, an UNSURE slot
of a camera with the REJECT policy, a MISSING slot, a BAD fill, FILL_MISSING, FILL_UNKNOWN, UNANNOUNCED, SUSPECT, FORCED, and
the policy REJECT_ALL (R61). -/
def Sys2Proof.Claims.ReasonsHold (s : State) (c : Settings) (x : Record) (r : BitVec 10) : Prop :=
  (r.getLsbD 0 = true ↔ ∃ k : Fin 4, x.slots[k].state = .fail) ∧
  (r.getLsbD 1 = true ↔
    ∃ (k : Fin 4) (g : CameraCfg), x.slots[k].state = .unsure ∧ c.cameras[k] = some g ∧ g.unsurePass = false) ∧
  (r.getLsbD 2 = true ↔ ∃ k : Fin 4, x.slots[k].state = .missing) ∧
  (r.getLsbD 3 = true ↔ ∃ f, x.fill = some f ∧ f.ok = false) ∧
  r.getLsbD 4 = x.fillMissing ∧ r.getLsbD 5 = x.fillUnknown ∧ r.getLsbD 6 = x.unannounced ∧
  r.getLsbD 7 = x.suspect ∧ r.getLsbD 8 = x.forced ∧ (r.getLsbD 9 = true ↔ s.reject.policy = .rejectAll)

/-- The verdict of a decision, its count and its ejection field, by the policy in force and the reason set, each reason of
which holds by its condition; and what a pitch event makes of every record's decision and ejection: decided at D, aimed at
E − 1, aimed again or fired at E, missed at E + 1, with the ejector list, the counts of firings and misses and the
EJECT_FAULT events LATE, MISSED and UNWATCHED, the last also for the head of a full exit queue (R33, R61, R62, R65, R66,
R67, R69, R70, R73, R77; the order of the events of a pitch
event, log 42; the older of two containers, log 31). -/
def Obligations.DecisionFollowsThePolicy : Prop :=
  (∀ (s : State) (c : Settings), s.cfg = some c → s.track.ring ≠ [] →
    EjectionsAtPitch s (pitchEvent s) c ∧ EjectorAtPitch s (pitchEvent s) c) ∧
  (∀ (s : State) (c : Settings) (x : Record), s.cfg = some c → ReasonsHold s c x (reasonSet s x)) ∧
  ∀ (s : State) (x : Record), let t := decideRecord x s; let r := reasonSet s x
    (∀ y ∈ t.track.ring, y.seq = x.seq →
      (r = 0 → y.decision = some ⟨.pass, r⟩ ∧ y.ejection = none) ∧
      (r ≠ 0 → s.reject.policy = .bypass → y.decision = some ⟨.bypassed, r⟩ ∧ y.ejection = none) ∧
      (r ≠ 0 → s.reject.policy ≠ .bypass → y.decision = some ⟨.reject, r⟩ ∧ y.ejection = some .awaitingArm)) ∧
    (s.reject.policy = .rejectAll → r ≠ 0) ∧ t.reject.decided = satInc s.reject.decided ∧
    t.reject.rejected = (if r ≠ 0 ∧ s.reject.policy ≠ .bypass then satInc s.reject.rejected else s.reject.rejected) ∧
    t.reject.bypassed = (if r ≠ 0 ∧ s.reject.policy = .bypass then satInc s.reject.bypassed else s.reject.bypassed) ∧
    Only [.track, .reject] s t

/-- An entry joins the ejector list: with fewer than 4 entries nothing else changes; a full list gives up its earliest entry
first, whose record becomes UNKNOWN, counted and reported as UNWATCHED, and is then settled for the exit queue (R68, R70,
R73; the older of two containers by the model's reading, log 31). -/
def Sys2Proof.Claims.EntryJoins (e : EjectEntry) (s t : State) : Prop :=
  (s.reject.list.length < 4 →
    t.reject = { s.reject with list := t.reject.list } ∧ JoinsInOrder e s.reject.list t.reject.list ∧ Only [.reject] s t) ∧
  ∀ (x : EjectEntry) (xs : List EjectEntry), s.reject.list = x :: xs → 4 ≤ s.reject.list.length →
    JoinsInOrder e (s.reject.list.filter fun y => y.seq != x.seq) t.reject.list ∧
      t.reject.unknown = satInc s.reject.unknown ∧
      t.track = { s.track with
        ring := s.track.ring.map fun y => if y.seq = x.seq then { y with confirm := some .unknown } else y } ∧
      Logs .ejectFault 0 4 (x.seq.setWidth 16) s t ∧ t.notice.flags.getLsbD flagEjectFault = true ∧
      (s.bus.device = .active → ∀ h hs, t.reject.exitQueue = h :: hs → ∃ y ∈ t.reject.list, y.seq = h.seq) ∧
      NoticeKept s t ∧ OnlyAsks [.track, .reject, .notice] s t

/-- FIRE_TIME: the first ARMED entry whose time is reached is fired: the pulse runs from now, merged with one that runs, the
record is FIRED now, the fired count grows. Every other AWAITING entry of a merged pulse takes the new deadline, the new
pulse end plus the confirm window. With an EJECT_CONFIRM line the entry joins as AWAITING until then, and a full list gives
up its earliest entry; without one it is gone and the record's confirmation UNKNOWN (R69, R70; that of two containers with
equal times the older is the one whose sequence number's difference modulo 2^32 from the other's is negative is the model's
reading, log 31). -/
def Obligations.FireTimeFiresTheEjector : Prop :=
  (∀ (s : State) (e : EjectEntry), EntryJoins e s (joinList e s)) ∧
  ∀ (s : State) (c : Settings) (e : EjectEntry), s.cfg = some c →
    s.reject.list.find? (fun x => x.deadline.isNone && reached x.fire s.time.now) = some e →
    let stop := s.time.now + BitVec.ofNat 64 (c.eject.pulseMs * 1000000)
    let until0 := stop + BitVec.ofNat 64 (c.eject.confirmMs * 1000000)
    let others := (s.reject.list.map fun x =>
      if s.reject.pulseEnd.isSome && x.inPulse && x.deadline.isSome then { x with deadline := some until0 } else x).filter
        fun x => x.seq != e.seq
    ∃ t, exec .fireTime s = .next t ∧ t.reject.pulseEnd = some stop ∧ t.reject.fired = satInc s.reject.fired ∧
      t.reject.late = s.reject.late ∧ t.reject.onPitch = s.reject.onPitch ∧
      (∀ x ∈ t.track.ring, x.seq = e.seq → x.ejection = some (.fired .fired s.time.now s.time.state)) ∧
      (lineWith s .ejectConfirm = none →
        t.reject.list = others ∧ (∀ x ∈ t.track.ring, x.seq = e.seq → x.confirm = some .unknown) ∧
          LogsNothing s t ∧ Raises [] s t) ∧
      ((lineWith s .ejectConfirm).isSome = true →
        let y : EjectEntry := ⟨e.seq, s.time.now, some until0, true⟩
        (others.length < 4 → JoinsInOrder y others t.reject.list ∧ LogsNothing s t ∧ Raises [] s t) ∧
        ∀ x xs, others = x :: xs → 4 ≤ others.length →
          JoinsInOrder y (others.filter fun z => z.seq != x.seq) t.reject.list ∧
            t.reject.unknown = satInc s.reject.unknown ∧ Logs .ejectFault 0 4 (x.seq.setWidth 16) s t ∧
            ∀ z ∈ t.track.ring, z.seq = x.seq → z.confirm = some .unknown) ∧
      NoticeKept s t ∧ OnlyAsks [.track, .reject, .notice] s t

/-- CONFIRM_DEADLINE: the first AWAITING entry whose deadline is reached leaves the list, its record in the ring is
UNCONFIRMED, the count grows and EJECT_FAULT UNCONFIRMED is reported (R72, R73). -/
def Obligations.ConfirmDeadlineUnconfirms : Prop :=
  ∀ (s : State) (e : EjectEntry), s.reject.list.find? (fun x => due x.deadline s.time.now) = some e →
    ∃ t, exec .confirmDeadline s = .next t ∧ t.reject.list = s.reject.list.filter (fun y => y.seq ≠ e.seq) ∧
      t.reject.unconfirmed = satInc s.reject.unconfirmed ∧ t.reject.confirmed = s.reject.confirmed ∧
      t.track = { s.track with
        ring := s.track.ring.map fun x => if x.seq = e.seq then { x with confirm := some .unconfirmed } else x } ∧
      Logs .ejectFault 0 3 (e.seq.setWidth 16) s t ∧ t.notice.flags.getLsbD flagEjectFault = true ∧
      NoticeKept s t ∧ OnlyAsks [.track, .reject, .notice] s t

/-- POLICY_NORMAL, POLICY_REJECT_ALL and POLICY_BYPASS: the policy is set and shown, a change is reported; BYPASS below
granted level MAINTAIN is ignored (R63). -/
def Obligations.PolicyRequestsSetThePolicy : Prop :=
  ∀ (s : State) (c : Settings), Serving s c →
    let sets := fun (i : Instr) (p : Policy) (code : Word) =>
      ∃ t, exec i s = .next t ∧ t.reject = { s.reject with policy := p } ∧ Answers c 18 (0x1000 ||| code) [.reject] s t ∧
        Raises [] s t ∧ (s.reject.policy = p → LogsNothing s t) ∧
        (s.reject.policy ≠ p →
          Logs .policyChange 0 (BitVec.ofNat 16 (policyCode s.reject.policy * 256) ||| code) 1 s t)
    sets .policyNormal .normal 0 ∧ sets .policyRejectAll .rejectAll 1 ∧
      (grantedLevel s = .maintain → sets .policyBypass .bypass 2) ∧
      (grantedLevel s ≠ .maintain →
        ∃ t, exec .policyBypass s = .next t ∧ Logs .requestIgnored 34 4 2 s t ∧ Raises [] s t ∧
          Answers c 18 (BitVec.ofNat 16 (policyCode s.reject.policy)) [] s t)

/-! ### The words of the mirrors and records (13.1 to 13.4) -/

/-- A field of a word: its lowest bit, its width and the value it shows. -/
structure Sys2Proof.Claims.Field where
  low : Nat
  width : Nat
  value : Nat

/-- A field of one bit. -/
def Sys2Proof.Claims.bitField (k : Nat) (b : Bool) : Field := ⟨k, 1, b.toNat⟩

/-- A word that is one value, and the words of a wider value, least significant first (R190). -/
def Sys2Proof.Claims.oneWord (n : Nat) : List Field := [⟨0, 16, n⟩]
def Sys2Proof.Claims.twoWords (n : Nat) : List (List Field) := [oneWord (n % 65536), oneWord (n / 65536 % 65536)]
def Sys2Proof.Claims.fourWords (n : Nat) : List (List Field) := twoWords n ++ twoWords (n / 4294967296)

/-- A word of a high and a low byte. -/
def Sys2Proof.Claims.twoBytes (hi lo : Nat) : List Field := [⟨8, 8, hi⟩, ⟨0, 8, lo⟩]

/-- A word holds these fields: while each value fits its field, every bit of a field is that of its value and every bit
outside the fields is 0 (R190). -/
def Sys2Proof.Claims.Packed (fs : List Field) (w : Word) : Prop :=
  (∀ f ∈ fs, f.value < 2 ^ f.width) →
    ∀ i < 16, w.getLsbD i = fs.any fun f => decide (f.low ≤ i) && f.value.testBit (i - f.low)

/-- Consecutive words from an offset on. -/
def Sys2Proof.Claims.wordsFrom (o : Nat) (ws : List (List Field)) : List (Nat × List Field) :=
  ws.mapIdx fun i fs => (o + i, fs)

/-- Words at offsets or addresses hold what a layout names there, word for word and in its order. -/
def Sys2Proof.Claims.Shows (ws : List (Nat × Word)) (layout : List (Nat × List Field)) : Prop :=
  ws.length = layout.length ∧ ∀ (i : Nat) (x : Nat × Word) (y : Nat × List Field), ws[i]? = some x →
    layout[i]? = some y → x.1 = y.1 ∧ Packed y.2 x.2

/-- The codes of 13.1, 13.3 and 13.4. -/
def Sys2Proof.Claims.CodesStand : Prop :=
  [TimeState.free, .locking, .locked, .holdover].map timeStateCode = [0, 1, 2, 3] ∧
  [Level.none, .view, .adjust, .maintain].map levelCode = [0, 1, 2, 3] ∧
  [DeviceState.loading, .configFault, .active, .reloading].map deviceCode = [0, 1, 2, 3] ∧
  (∀ r : Fin 8, roleCode (.robot r) = r.val) ∧ (∀ c : Fin 4, roleCode (.camera c) = 8 + c.val) ∧
  [Role.hall, .service, .spare].map roleCode = [12, 13, 14] ∧
  [Context.offline, .starting, .running, .safe, .lost].map contextCode = [0, 1, 2, 3, 4] ∧
  [OutRole.free, .host, .check, .ready, .link].map outRoleCode = [0, 1, 2, 3, 4] ∧
  [InRole.free, .hostIn, .fresh, .filling].map inRoleCode = [0, 1, 2, 3] ∧
  [AnswerState.none, .due, .started, .answered, .failed].map answerCode = [0, 1, 2, 3, 4] ∧
  [Reported.none, .ready, .fault].map reportedCode = [0, 1, 2] ∧
  [Policy.normal, .rejectAll, .bypass].map policyCode = [0, 1, 2] ∧
  [Cause.fixed, .grantLevel, .lineRunning, .partialLanes, .unassigned, .loading].map causeCode = [1, 2, 3, 4, 5, 6] ∧
  [Known.unknown, .disabled, .enabled].map knownCode = [0, 1, 2] ∧ [Link.unknown, .down, .up].map linkCode = [0, 1, 2] ∧
  [CmdAction.enable, .disable, .ask].map actionCode = [1, 2, 3] ∧
  [Lamp.off, .on, .blinking].map lampCode = [0, 1, 2] ∧
  [SlotState.notSelected, .pass, .fail, .unsure, .missing].map slotCode = [0, 1, 2, 3, 4] ∧
  [LineFn.none, .encoderA, .encoderB, .presence, .ejectConfirm, .keyA, .keyB, .generalIn, .trigger 0, .trigger 1,
    .trigger 2, .trigger 3, .ejector, .grantLamp, .cyclePulse, .runOut, .generalOut].map lineFnCode = List.range 17 ∧
  [EventKind.timeStep, .timeState, .cycleSlip, .encoderError, .reverseLimit, .lineState, .lineReset, .requestIgnored,
    .cameraFault, .policyChange, .ejectFault, .limitEntryBad, .robotState, .txDropped, .robotReport, .grantChange,
    .keyInvalid, .portLink, .portCommandFailed, .portOverridden, .portQuarantined, .frameMisplaced, .configRejected,
    .storeFailed, .recipeDropped].map eventCode = [1, 2, 3, 4, 5, 6, 7, 8, 9, 10, 11, 12, 13, 14, 15, 16, 17, 18, 19, 20,
    21, 22, 23, 24, 25]

/-- Offsets 4 and 8 to 15: the refusal count and the record, empty as zeros (R93; 13.2; one write-out, log 54). -/
def Sys2Proof.Claims.refusalLayout (s : State) : List (Nat × List Field) :=
  (4, oneWord s.bus.refusals.toNat) :: wordsFrom 8
    (match s.bus.record with
     | none => List.replicate 8 (oneWord 0)
     | some r =>
       [oneWord (r.addr % 65536), [⟨0, 3, r.addr / 65536⟩, ⟨14, 2, timeStateCode r.quality⟩], oneWord r.data.toNat,
         [⟨8, 8, causeCode r.cause⟩, bitField 1 (r.lanes != .lower), bitField 0 (r.lanes != .upper)]]
       ++ fourWords r.time.toNat)

/-- The device word: in CONFIG_FAULT the fault and its item, else the generation (13.2). -/
def Sys2Proof.Claims.deviceLayout (s : State) : List Field :=
  [⟨13, 3, deviceCode s.bus.device⟩, bitField 12 s.bus.storing] ++
    if s.bus.device = .configFault then [⟨8, 4, s.bus.faultCode.toNat⟩, ⟨0, 8, s.bus.faultItem.toNat⟩]
    else [⟨0, 12, s.bus.generation.toNat % 4096⟩]

/-- The time mirror (R20; 13.2). -/
def Sys2Proof.Claims.timeLayout (s : State) : List (List Field) :=
  twoWords (s.time.corr % 4294967296).toNat ++ twoWords (s.time.integ % 4294967296).toNat ++
    twoWords (max (-2147483648) (min 2147483647 s.time.lastOffset.toInt) % 4294967296).toNat ++
    [[⟨14, 2, timeStateCode s.time.state⟩, bitField 13 s.time.saturated, ⟨0, 3, s.time.lockRun⟩],
      oneWord s.time.accepted.toNat, oneWord s.time.foreign.toNat, oneWord s.time.malformed.toNat]

/-- The port mirror (R164; 13.4). -/
def Sys2Proof.Claims.portLayout (s : State) (p : Fin 16) : List (List Field) :=
  let r := s.switch.ports[p]
  [[⟨12, 4, roleCode r.role⟩, bitField 11 r.desired, ⟨9, 2, knownCode r.known⟩, ⟨7, 2, linkCode r.link⟩,
      bitField 6 r.quarantined, bitField 5 r.hostDisabled, bitField 4 (s.switch.queue.any fun k => k.port == p),
      bitField 3 (s.switch.outstanding.any fun x => x.cmd.port == p)],
    twoBytes r.flaps r.overrides.toNat, oneWord r.admitted.toNat, twoBytes r.misplaced.toNat r.failed.toNat]

/-- The switch status (R164; 13.4). That offset 249 is 0 with no command outstanding is the model's choice (log 61). -/
def Sys2Proof.Claims.switchLayout (s : State) : List (List Field) :=
  let w := s.switch
  [oneWord w.untagged.toNat, oneWord w.badPort.toNat, oneWord w.foreignType.toNat, oneWord w.blocked.toNat,
    oneWord w.inactive.toNat, oneWord w.lineErrors.toNat, oneWord w.strays.toNat, oneWord w.sent.toNat,
    oneWord w.failures.toNat,
    (match w.outstanding with
     | some x => [bitField 15 true, ⟨8, 4, x.cmd.port.val⟩, ⟨0, 2, actionCode x.cmd.action⟩]
     | none => oneWord 0),
    twoBytes w.nextSeq.toNat w.queue.length, oneWord w.lastPort.val] ++ fourWords w.ports[w.lastPort].changed.toNat

/-- The camera status record; of a camera not configured zeros (R57; 13.4). -/
def Sys2Proof.Claims.cameraLayout (s : State) (k : Fin 4) : List (List Field) :=
  let m := s.cameras[k]
  match cameraCfg s k with
  | none => List.replicate 8 (oneWord 0)
  | some _ =>
    [[bitField 15 true, ⟨0, 8, m.pending.length⟩],
      twoBytes m.triggers.toNat (m.pending.filter fun e => e.state == .waiting).length, oneWord m.latency.toNat,
      oneWord m.duplicates.toNat, oneWord m.lates.toNat, oneWord m.unmatcheds.toNat, oneWord m.malformeds.toNat,
      oneWord m.missings.toNat]

/-- The level that a driven line shows: active through its owner's pulse, the lamp state, RUNNING, or the held level of
its number (R169, R171, R172; of a line whose function or number moved by the model's choice, log 48, log 49). -/
def Sys2Proof.Claims.levelShown (s : State) (l : Fin 16) (f : LineFn) : Nat :=
  match f with
  | .trigger c => s.cameras[c].pulseEnd.isSome.toNat
  | .ejector => s.reject.pulseEnd.isSome.toNat
  | .cyclePulse => s.lines.cyclePulseEnd.isSome.toNat
  | .grantLamp => lampCode s.grant.lamp
  | .runOut => s.track.running.toNat
  | .generalOut => (s.cfg.any fun c => s.lines.held.getLsbD
      (allLines.filter fun k => decide (k < l) && c.lines[k].fn == .generalOut).length).toNat
  | _ => 0

/-- The line mirror word: RELEASED with no record, SAMPLED with one of the first eight functions, else DRIVEN (R167, R172;
13.4). -/
def Sys2Proof.Claims.lineLayout (s : State) (l : Fin 16) : List Field :=
  let x := s.lines.line[l]
  match x.record with
  | none => oneWord 0
  | some rec =>
    ⟨11, 5, lineFnCode rec.fn⟩ ::
      if lineFnCode rec.fn < 8 then [⟨8, 2, 1⟩, bitField 4 x.debounceEnd.isSome, ⟨0, 2, x.accepted.toNat⟩]
      else [⟨8, 2, 2⟩, ⟨0, 2, levelShown s l rec.fn⟩]

/-- The tracking status (R41; the bits of its first word by the model's choice, log 37). -/
def Sys2Proof.Claims.trackLayout (s : State) : List (List Field) :=
  let t := s.track
  [[bitField 15 t.running, bitField 14 (t.intervals == 2), ⟨0, 2, t.intervals⟩]] ++ twoWords (t.period.getD 0 / 1000) ++
    twoWords ((t.ring.head?.map (·.seq.toNat)).getD 0) ++
    [oneWord (if t.running then t.runPitches.toNat else 0), oneWord t.encoderErrors.toNat, oneWord t.reverseLimits.toNat,
      oneWord t.overspeeds.toNat, oneWord t.fillDuplicates.toNat, oneWord t.fillLates.toNat,
      oneWord t.misdirecteds.toNat, oneWord t.unannounceds.toNat, oneWord t.fillUnknowns.toNat,
      oneWord t.fillMissings.toNat, oneWord t.forceds.toNat]

/-- The grant record (R150; 13.4). -/
def Sys2Proof.Claims.grantLayout (s : State) : List (List Field) :=
  let g := s.grant
  [[bitField 15 g.isOpen, ⟨12, 2, lampCode g.lamp⟩, ⟨8, 2, levelCode (keyLevel s)⟩,
      bitField 7 (g.settledA && g.settledB), bitField 6 g.debounceEnd.isSome, ⟨0, 2, timeStateCode g.openQuality⟩],
    [⟨12, 2, levelCode g.requested⟩, ⟨8, 2, if g.isOpen then levelCode g.granted else 0⟩,
      ⟨4, 2, levelCode (effectiveLevel s)⟩, ⟨0, 2, if s.track.running then 2 else 3⟩],
    oneWord g.duration.toNat] ++ fourWords g.openTime.toNat ++ fourWords (g.expiry.getD 0).toNat ++
    [oneWord g.opened.toNat, oneWord g.keyActions.toNat, oneWord g.expiries.toNat, oneWord g.refused.toNat,
      oneWord g.keyInvalids.toNat]

/-- The reject status from offset 209 on (R81). -/
def Sys2Proof.Claims.rejectLayout (s : State) : List (List Field) :=
  let j := s.reject
  [oneWord j.readIx, oneWord j.dropped.toNat, oneWord j.decided.toNat, oneWord j.rejected.toNat, oneWord j.bypassed.toNat,
    oneWord j.fired.toNat, oneWord j.late.toNat, oneWord j.onPitch.toNat, oneWord j.missed.toNat,
    oneWord j.confirmed.toNat, oneWord j.unconfirmed.toNat, oneWord j.unknown.toNat, oneWord j.stray.toNat,
    twoBytes j.list.length j.exitQueue.length]

/-- The robot status record: the output side, then the answer side; of a robot not configured zeros, but for bank 0 HOST
(R119, R137; 13.3; word 13 before a frame is sent and the low bits of word 29 with no FRESH bank by the model's choice,
log 55). -/
def Sys2Proof.Claims.robotLayout (s : State) (r : Fin 8) : List (List Field) :=
  let b := s.robots[r]
  let mask := fun x : OutRole => ((outBank b x).map fun k => b.masks[k].toNat).getD 0
  let kept := ((inBank b .hostIn).map fun k => b.infos[k]).getD InMeta.reset
  match robotCfg s r with
  | none => [oneWord 0, [⟨0, 3, 1⟩]] ++ List.replicate 30 (oneWord 0)
  | some _ =>
    [[⟨13, 3, contextCode b.context⟩, bitField 12 (checking b), bitField 11 b.pendingMask.isSome],
      [⟨0, 3, outRoleCode b.out[0]⟩, ⟨4, 3, outRoleCode b.out[1]⟩, ⟨8, 3, outRoleCode b.out[2]⟩],
      [⟨0, 2, mask .check⟩, ⟨2, 2, mask .ready⟩, ⟨4, 2, mask .link⟩, ⟨6, 2, (b.pendingMask.map (·.toNat)).getD 0⟩],
      oneWord b.stale.toNat, oneWord b.superseded.toNat, oneWord b.overruns.toNat, oneWord b.clamps.toNat,
      oneWord b.firstClamped.toNat, oneWord b.badEntries.toNat, oneWord b.handovers.toNat, oneWord b.checks.toNat,
      oneWord b.recipeDrops.toNat,
      [⟨0, 2, inRoleCode b.inp[0]⟩, ⟨2, 2, inRoleCode b.inp[1]⟩, ⟨4, 2, inRoleCode b.inp[2]⟩,
        ⟨8, 3, answerCode b.answerState⟩, bitField 15 b.safePending],
      oneWord (b.lastCycleSent.getD 0).toNat, oneWord b.missedRun.toNat, oneWord b.missedTotal.toNat,
      oneWord b.expiries.toNat, oneWord b.txDropped.toNat, oneWord b.staleAnswers.toNat, oneWord b.dupAnswers.toNat,
      oneWord b.inputLost.toNat, oneWord b.deposited.toNat, twoBytes (reportedCode b.reported) b.badAnswers.toNat,
      oneWord kept.cycle.toNat] ++ fourWords kept.sample.toNat ++
      [[bitField 0 kept.short, bitField 1 kept.long, bitField 2 kept.deposited],
        [bitField 15 (inBank b .fresh).isSome, bitField 14 b.lastCycleSent.isSome,
          ⟨0, 12, ((inBank b .fresh).map fun k => b.infos[k].cycle.toNat % 4096).getD 0⟩],
        oneWord b.latency.toNat, oneWord b.ctxChanges.toNat]

/-- The words of each mirror, record, index word and request word, at their control page offsets (13.2; which words are one
write-out by the model's choice, log 47, log 54, log 57). -/
def Sys2Proof.Claims.mirrorLayout (s : State) (m : Mirror) : List (Nat × List Field) :=
  match m with
  | .flags => [(0, oneWord s.notice.flags.toNat)]
  | .enables => [(1, oneWord s.notice.enables.toNat)]
  | .globalEnable => [(2, [bitField 0 s.notice.globalEnable])]
  | .device => [(3, deviceLayout s)]
  | .refusal => refusalLayout s
  | .summary => [(5, [bitField 15 s.track.running, ⟨8, 2, policyCode s.reject.policy⟩, bitField 4 s.grant.isOpen,
      ⟨0, 2, levelCode (effectiveLevel s)⟩])]
  | .request i => [(16 + i.val, oneWord s.notice.status[i].toNat)]
  | .time => wordsFrom 48 (timeLayout s)
  | .port p => wordsFrom (64 + 4 * p.val) (portLayout s p)
  | .camera k => wordsFrom (128 + 8 * k.val) (cameraLayout s k)
  | .line l => [(160 + l.val, lineLayout s l)]
  | .tracking => wordsFrom 176 (trackLayout s)
  | .grant => wordsFrom 192 (grantLayout s)
  | .outcomeIndex => [(208, oneWord s.reject.shownIx)]
  | .reject => wordsFrom 209 (rejectLayout s)
  | .eventIndex => [(224, oneWord s.notice.shownIx)]
  | .events => [(225, oneWord s.notice.readIx), (226, oneWord s.notice.lost.toNat)]
  | .switch => wordsFrom 240 (switchLayout s)
  | .robot r => wordsFrom (768 + 32 * r.val) (robotLayout s r)

/-- The result and the confirmation of an outcome, from the decision and the ejection (R79; 13.3). -/
def Sys2Proof.Claims.outcomeOf (x : Record) : Option (Nat × Nat) :=
  let confirmed := x.confirm.map fun k => match k with | .confirmed => 1 | .unconfirmed => 2 | .unknown => 3
  match x.decision, x.ejection with
  | some ⟨.pass, _⟩, none => some (0, 0)
  | some ⟨.bypassed, _⟩, none => some (1, 0)
  | some ⟨.reject, _⟩, some (.fired .fired _ _) => confirmed.map (2, ·)
  | some ⟨.reject, _⟩, some (.fired .late _ _) => confirmed.map (3, ·)
  | some ⟨.reject, _⟩, some (.fired .onPitch _ _) => confirmed.map (4, ·)
  | some ⟨.reject, _⟩, some .missed => some (5, 0)
  | _, _ => none

/-- The outcome record of a container (R79; 13.3). -/
def Sys2Proof.Claims.outcomeLayout (x : Record) (d : Decision) (r : Fin 8) (out : Nat × Nat) : List (List Field) :=
  let slot := fun (k : Fin 4) (at0 : Nat) => [⟨at0, 3, slotCode x.slots[k].state⟩, bitField (at0 + 3) x.slots[k].truncated,
    bitField (at0 + 4) x.slots[k].short]
  twoWords x.seq.toNat ++ fourWords x.entry.toNat ++
    [[⟨0, 10, d.reasons.toNat⟩],
      [⟨12, 4, out.1⟩, ⟨10, 2, out.2⟩, ⟨8, 2, (x.fill.map fun f => if f.ok then 1 else 2).getD 0⟩, ⟨0, 3, r.val⟩],
      oneWord ((x.fill.map fun f => f.qty.toNat).getD 0), slot 0 0 ++ slot 1 8, slot 2 0 ++ slot 3 8] ++
    (allCameras.map fun k => oneWord (x.slots[k].defects.headD 0).toNat) ++ [[⟨14, 2, timeStateCode x.quality⟩]]

/-- What the write-outs write, each at its address: every mirror and record by its layout on the control page in force;
the capture words, the sequence word last; an event record in its slot of the event ring and then the write index; an
outcome record in its slot and then that ring's write index; and the copies, the safe images robot by robot and then the
limits (R19, R78, R79, R101, R180, R185, R190; 13.2, 13.3, 13.4; with no configuration in force the default page, log 18;
no capture write-out of offset 41, log 58). -/
def Sys2Proof.Claims.WriteOutsShow (s : State) : Prop :=
  let page := (s.cfg.map (·.page)).getD 0x7F000
  CodesStand ∧
  (∀ m : Mirror, Shows (jobWords s (.mirror m)) ((mirrorLayout s m).map fun x => (page + x.1, x.2))) ∧
  (∀ x : Capture, s.time.capture = some x → Shows (jobWords s .capture)
    (wordsFrom (page + 58) (fourWords x.time.toNat ++ [[⟨0, 2, timeStateCode x.state⟩], [⟨0, 8, x.seq.toNat⟩]]))) ∧
  (∀ (n ix : Nat) (k : EventKind) (subject : Word) (d : Time) (q : TimeState) (v w : Word),
    Shows (jobWords s (.event n (eventWords k subject d q v w) ix))
      (wordsFrom (page + 256 + 8 * n) ([[⟨0, 8, eventCode k⟩, ⟨14, 2, timeStateCode q⟩], oneWord subject.toNat] ++
        fourWords d.toNat ++ [oneWord v.toNat, oneWord w.toNat]) ++ [(page + 224, oneWord ix)])) ∧
  (∀ (a ix : Nat) (x : Record) (d : Decision) (r : Fin 8) (out : Nat × Nat), x.decision = some d → x.robot = some r →
    outcomeOf x = some out → (∀ k : Fin 4, x.slots[k].state ≠ .waiting) →
    Shows (jobWords s (.outcome a (outcomeWords x) ix))
      (wordsFrom a (outcomeLayout x d r out) ++ [(page + 208, oneWord ix)])) ∧
  ∀ c : Settings, s.loader.accepted = some c → jobWords s .copies =
    (allRobots.flatMap fun r => c.safe[r].mapIdx fun k v => (regionBase c .safeImages none + 128 * r.val + k, v)) ++
      c.limits.mapIdx fun k v => (regionBase c .limits none + k, v)

/-! ### The access path (05) and the notice words (11) -/

/-- A refusal record after a refusal: the first since it was emptied is kept (R92, R93, R95). -/
def Sys2Proof.Claims.recordAfter (kept : Option Refused) (s : State) (a : Nat) (l : Lanes) (w : Word) (x : Cause) :
    Option Refused :=
  match kept with
  | some y => some y
  | none => some ⟨a, w, l, x, s.time.now, s.time.state⟩

/-- The Access Path after a write refused with a cause: no access in flight, the count one greater, the record filled when
it was empty, and in RELOADING the count and the record of that interval likewise; outside RELOADING those two stand (R92,
R93, R95). -/
def Sys2Proof.Claims.busRefusing (s : State) (a : Nat) (l : Lanes) (w : Word) (x : Cause) : Bus :=
  let reloads := s.bus.device = .reloading
  { s.bus with
    access := none
    refusals := satInc s.bus.refusals
    record := recordAfter s.bus.record s a l w x
    reloadRefusals := if reloads then satInc s.bus.reloadRefusals else s.bus.reloadRefusals
    reloadRecord := if reloads then recordAfter s.bus.reloadRecord s a l w x else s.bus.reloadRecord }

/-- A write is refused with a cause: the counts and the records, the REFUSED flag; no event, no byte of SRAM and nothing
else (R92, R93, R95). -/
def Sys2Proof.Claims.Refuses (s t : State) (a : Nat) (l : Lanes) (w : Word) (x : Cause) : Prop :=
  t.bus = busRefusing s a l w x ∧ Raises [flagRefused] s t ∧ LogsNothing s t ∧ NoticeKept s t ∧ OnlyAsks [.bus, .notice] s t ∧
    ∀ b, t.sram.readByte b = s.sram.readByte b

/-- An address lies in the control page. -/
def Sys2Proof.Claims.OnPage (c : Settings) (a : Nat) : Prop := c.page ≤ a ∧ a < c.page + 4096

/-- A region spans an address. -/
def Sys2Proof.Claims.Spans (a : Nat) (g : Region) : Prop := g.base ≤ a ∧ a < g.base + g.len

/-- A region is the first of the table with a property; of those that span an address an accepted image has at most one
(R85). -/
def Sys2Proof.Claims.FirstRegion (p : Region → Prop) (c : Settings) (g : Region) : Prop :=
  ∃ before after, c.regions = before ++ g :: after ∧ p g ∧ ∀ h ∈ before, ¬ p h

/-- An address lies outside the control page, in a region of the configuration. -/
def Sys2Proof.Claims.InRegion (c : Settings) (a : Nat) (g : Region) : Prop :=
  ¬ OnPage c a ∧ FirstRegion (Spans a) c g

/-- What becomes of a read: it passes on the control page, outside every region, in every region that is no window and in
the tail of a window; in a window, at an offset below the image length of its robot, it stands for that offset of the bank
region of the window's kind, in the bank whose role the window shows (R85, R86). -/
def Sys2Proof.Claims.ReadCase (c : Settings) (a : Nat) (f : Fate) : Prop :=
  (OnPage c a ∨ (∀ g ∈ c.regions, ¬ Spans a g) → f = .pass) ∧
    ∀ g : Region, InRegion c a g →
      (g.kind ≠ .outputWindow → g.kind ≠ .inputWindow → f = .pass) ∧
      ∀ y : RobotCfg, c.robots[g.robot] = some y →
        let k := a - g.base
        (g.kind = .outputWindow → (y.nOut ≤ k → f = .pass) ∧
          ∀ o, k < y.nOut → FirstRegion (fun h => h.kind = .outputBanks ∧ h.robot = g.robot) c o →
            f = .window false g.robot o.base y.nOut k (decide (y.motion ≤ k))) ∧
        (g.kind = .inputWindow → (y.nIn ≤ k → f = .pass) ∧
          ∀ o, k < y.nIn → FirstRegion (fun h => h.kind = .inputBanks ∧ h.robot = g.robot) c o →
            f = .window true g.robot o.base y.nIn k false)

/-- PROCESSOR_ACCESS: with none in flight a write in LOADING or RELOADING is refused at once; a read, and a write in the
other states, is put in flight, its class test left to the moment it would be completed. A read is classified then: as
`ReadCase` has it under a configuration in force, and passed in LOADING and CONFIG_FAULT. An access is held just when it
meets the output window of a robot with a CHECK bank, and WAIT is asserted where it is held or the next slot is not the
processor's. While one is in flight the processor presents no other (R85, R86, R87, R92, R94, R95, R97, R100; the last and
the moment of the other refusals by log 8). -/
def Obligations.ProcessorAccessIsPresented : Prop :=
  ∀ (s : State) (write : Bool) (a : BitVec 19) (l : Lanes) (w : Word),
    let f := classify s write a.toNat l
    let held := (match f with | .window false r _ _ _ _ => checking s.robots[r] | _ => false)
    (s.bus.access = none → write = false ∨ (s.bus.device ≠ .loading ∧ s.bus.device ≠ .reloading) →
      ∃ t, exec (.processorAccess write a l w) s = .next t ∧ OnlyAsks [.bus] s t ∧
        t.bus = { s.bus with access := some ⟨write, a.toNat, l, w, f, held, waitAsserted t⟩ } ∧
        (waitAsserted t = true ↔ held = true ∨ arbiter true s ≠ some .processor)) ∧
    (write = false → (s.bus.device = .loading ∨ s.bus.device = .configFault → f = .pass) ∧
      (s.bus.device = .active ∨ s.bus.device = .reloading → ∀ c, s.cfg = some c → ReadCase c a.toNat f)) ∧
    (s.bus.access = none → write = true → (s.bus.device = .loading ∨ s.bus.device = .reloading) →
      ∃ t, exec (.processorAccess write a l w) s = .next t ∧ Refuses s t a.toNat l w .loading ∧ waitAsserted t = false) ∧
    (s.bus.access.isSome = true → exec (.processorAccess write a l w) s = .next s)

/-- In LOADING and in RELOADING every whole write of the processor, whatever its address, its lanes and its request, is
refused with cause LOADING; in RELOADING it also counts, and is recorded if it is the first, in the count and record kept
for the reload. In ACTIVE and CONFIG_FAULT one that is held, or is not granted the next slot, stays in flight
untested with WAIT asserted and nothing stored (R85, R87, R92, R93, R94, R95, R99, R100, R187; the presentation within the command,
log 8). -/
def Obligations.WritesAreRefusedOrWait : Prop :=
  ∀ (s : State) (i : Instr) (a : Nat) (l : Lanes) (w : Word), asWrite s i = some (a, l, w) → s.bus.access = none →
    ((s.bus.device = .loading ∨ s.bus.device = .reloading) → ∃ t, exec i s = .next t ∧ Refuses s t a l w .loading) ∧
    let f := classify s true a l
    let held := (match f with | .window false r _ _ _ _ => checking s.robots[r] | _ => false)
    (s.bus.device ≠ .loading → s.bus.device ≠ .reloading → held = true ∨ arbiter true s ≠ some .processor →
      ∃ t, exec i s = .next t ∧ t.bus = { s.bus with access := some ⟨true, a, l, w, f, held, true⟩ } ∧
        waitAsserted t = true ∧ OnlyAsks [.bus] s t ∧ ∀ b, t.sram.readByte b = s.sram.readByte b)

/-- The cause with which a write of class MAINTAIN is refused below that level (R89). -/
def Sys2Proof.Claims.maintainCause (s : State) : Cause :=
  if grantedLevel s = .maintain ∧ keyLevel s = .maintain then .lineRunning else .grantLevel

/-- MEMORY_WRITE, refused when its slot comes: below its class a write to LIMITS, to a GUARDED region, to the recipe
section of an output window without a CHECK bank or to the staging area is refused, with LINE_RUNNING where the line cap
alone stands in the way of MAINTAIN; a write to an input window, the tail of an output window, a bank region, the safe
images or the outcome ring always is, with FIXED. In the control page a request word refuses one lane with PARTIAL, the
unassigned words refuse with UNASSIGNED, the staging area while STORING with LOADING, and every other word but the notice
words with FIXED (R85, R88, R89, R90, R96, Law 3). -/
def Obligations.GuardedWritesNeedTheirLevel : Prop :=
  ∀ (s : State) (c : Settings) (a : BitVec 19) (l : Lanes) (w : Word), s.bus.device = .active →
    s.cfg = some c → s.bus.access = none → arbiter true s = some .processor →
    let refused := fun x : Cause => ∃ t, exec (.memoryWrite a l w) s = .next t ∧ Refuses s t a.toNat l w x
    let belowAdjust := effectiveLevel s = .none ∨ effectiveLevel s = .view
    (∀ g : Region, InRegion c a.toNat g →
      ((g.kind = .limits ∨ (g.kind = .guarded ∧ g.maintain = false)) → belowAdjust → refused .grantLevel) ∧
      (g.kind = .guarded → g.maintain = true → effectiveLevel s ≠ .maintain → refused (maintainCause s)) ∧
      (g.kind ∈ [.inputWindow, .outputBanks, .inputBanks, .safeImages, .outcomeRing] → refused .fixed) ∧
      ∀ y : RobotCfg, g.kind = .outputWindow → c.robots[g.robot] = some y →
        (y.nOut ≤ a.toNat - g.base → refused .fixed) ∧
        (y.motion ≤ a.toNat - g.base → a.toNat - g.base < y.nOut → checking s.robots[g.robot] = false → belowAdjust →
          refused .grantLevel)) ∧
    (OnPage c a.toNat →
      let k := a.toNat - c.page
      ((k ∈ [3, 4, 5] ∨ (8 ≤ k ∧ k < 16) ∨ (48 ≤ k ∧ k < 1024)) → refused .fixed) ∧
      ((k ∈ [6, 7] ∨ (42 ≤ k ∧ k < 48)) → refused .unassigned) ∧
      (16 ≤ k → k < 42 → l ≠ .both → refused .partialLanes) ∧
      (1024 ≤ k → s.bus.storing = true → refused .loading) ∧
      (1024 ≤ k → s.bus.storing = false → effectiveLevel s ≠ .maintain → refused (maintainCause s)))

/-- A write of some lanes of one word: the bytes of the lanes carried are the word's, every other byte reads as before. -/
def Sys2Proof.Claims.StoresLanes (a : Nat) (l : Lanes) (w : Word) (s t : State) : Prop :=
  t.sram = s.sram.writeLanes a l w ∧
    (∀ b, ¬ (b = 2 * a ∧ l ≠ .upper) → ¬ (b = 2 * a + 1 ∧ l ≠ .lower) → t.sram.readByte b = s.sram.readByte b) ∧
    (s.sram.wf = true → (l ≠ .upper → t.sram.readByte (2 * a) = w.setWidth 8) ∧
      (l ≠ .lower → t.sram.readByte (2 * a + 1) = (w >>> 8).setWidth 8))

/-- MEMORY_WRITE, passed: outside every region, in a GUARDED region, LIMITS or the staging area at its level, and in
CONFIG_FAULT outside the watched word, the lanes are stored at the address; in an output window without a CHECK bank they
are stored in the robot's HOST bank, in the motion section at any level and in the recipe section at ADJUST or above
(R85, R86, R88, R90, R97). -/
def Obligations.PassedWritesReachMemory : Prop :=
  ∀ (s : State) (a : BitVec 19) (l : Lanes) (w : Word), s.bus.access = none → arbiter true s = some .processor →
    let stored := fun x : Nat => ∃ t, exec (.memoryWrite a l w) s = .next t ∧ StoresLanes x l w s t ∧
      t.bus = (granting .processor s).bus ∧ OnlyAsks [.sram, .bus] s t
    (s.bus.device = .configFault → a.toNat ≠ 0x7F028 → stored a.toNat) ∧
    ∀ c : Settings, s.bus.device = .active → s.cfg = some c →
      (¬ OnPage c a.toNat → (∀ g ∈ c.regions, ¬ Spans a.toNat g) → stored a.toNat) ∧
      (OnPage c a.toNat → 1024 ≤ a.toNat - c.page → s.bus.storing = false → effectiveLevel s = .maintain →
        stored a.toNat) ∧
      ∀ g : Region, InRegion c a.toNat g →
        ((g.kind = .limits ∨ g.kind = .guarded) →
          effectiveLevel s = .maintain ∨ (effectiveLevel s = .adjust ∧ ¬ (g.kind = .guarded ∧ g.maintain = true)) →
          stored a.toNat) ∧
        ∀ (y : RobotCfg) (b : Fin 3), g.kind = .outputWindow → c.robots[g.robot] = some y → a.toNat - g.base < y.nOut →
          (a.toNat - g.base < y.motion ∨ effectiveLevel s = .adjust ∨ effectiveLevel s = .maintain) →
          checking s.robots[g.robot] = false → outBank s.robots[g.robot] .host = some b →
          stored (outBankAddr c g.robot y.nOut b (a.toNat - g.base))

/-- The arbiter's order: an agent that waited through four processor grants, first in the order reader, deposit, engine,
writer; else the processor if it waits; else the first agent waiting. A grant sets the wait count of the agent granted,
and of one with no word waiting, to 0; a grant to the processor adds one to that of every agent waiting (R99). -/
def Sys2Proof.Claims.ArbiterOrder (s : State) : Prop :=
  (∀ proc : Bool,
    let late := fun g => agentWaiting s g = true ∧ 4 ≤ waitOf s.bus.waits g
    (arbiter proc s = some .processor ↔ proc = true ∧ ∀ g, ¬ late g) ∧
    (∀ g, late g → ∃ h, arbiter proc s = some h ∧ late h) ∧
    (∀ g, arbiter proc s = some g → g ≠ .processor → agentWaiting s g = true ∧ (late g ∨ proc = false)) ∧
    (late .reader → arbiter proc s = some .reader) ∧
    (¬ late .reader → late .deposit → arbiter proc s = some .deposit) ∧
    (¬ late .reader → ¬ late .deposit → late .engine → arbiter proc s = some .engine) ∧
    (proc = false → (∀ g, ¬ late g) →
      (agentWaiting s .reader = true → arbiter proc s = some .reader) ∧
      (agentWaiting s .reader = false → agentWaiting s .deposit = true → arbiter proc s = some .deposit) ∧
      (agentWaiting s .reader = false → agentWaiting s .deposit = false → agentWaiting s .engine = true →
        arbiter proc s = some .engine)) ∧
    (arbiter proc s = none ↔ proc = false ∧ ∀ g, agentWaiting s g = false)) ∧
  ∀ g : Requester, (granting g s).bus = { s.bus with waits := (granting g s).bus.waits } ∧
    ∀ h, h ≠ .processor → waitOf (granting g s).bus.waits h =
      if h = g ∨ agentWaiting s h = false then 0
      else if g = .processor then waitOf s.bus.waits h + 1 else waitOf s.bus.waits h

/-- A MEMORY_SLOT granted to requester `g`: the wait counts follow, and of State at most the listed fields differ. -/
def Sys2Proof.Claims.SlotOf (g : Requester) (ps : List Part) (s : State) (P : State → Prop) : Prop :=
  ∃ t, exec .memorySlot s = .next t ∧ t.bus = (granting g s).bus ∧ OnlyAsks (.bus :: ps) s t ∧ P t

/-- A slot of the frame transmit reader brings the next word of the section in transmission; a slot of the answer deposit
stores the next word of the robot it serves in its bank (R126, R131). That it serves the deposit started first, of those
with words left, is the model's choice (log 51). -/
def Sys2Proof.Claims.ExchangeSlots (s : State) : Prop :=
  (∀ x : Sending, arbiter (processorWaiting s) s = some .reader → s.field.sending = some x →
    SlotOf .reader [.field] s fun t =>
      t.field = { s.field with
        sending := some { x with words := x.words ++ [s.sram.readWord (x.frame.base + x.words.length)] } }) ∧
  ∀ (c : Settings) (g : RobotCfg) (r : Fin 8) (a : Answer) (w : Word) (ws : List Word),
    arbiter (processorWaiting s) s = some .deposit → depositor s = some r → s.cfg = some c → c.robots[r] = some g →
    s.robots[r].answer = some a → a.left = w :: ws →
    SlotOf .deposit [.sram, .robots] s fun t =>
      Stores (regionBase c .inputBanks (some r) + a.bank.val * g.nIn + a.next) w s t ∧
        t.robots = s.robots.set r { s.robots[r] with answer := some { a with left := ws, next := a.next + 1 } }

/-- A slot of the check engine: a limit word read; a word of the CHECK bank read and clamped by the kept entries at its
offset in their order; a clamped word written back, counted, the check's first one raising CLAMPED; or the checked word
copied to the HOST bank, which ends its offset (R108, R110, R111). -/
def Sys2Proof.Claims.EngineSlots (s : State) : Prop :=
  ∀ (c : Settings) (g : RobotCfg) (k : CheckRun) (b h : Fin 3), arbiter (processorWaiting s) s = some .engine →
    s.cfg = some c → s.engine.current = some k → c.robots[k.robot] = some g →
    outBank s.robots[k.robot] .check = some b → outBank s.robots[k.robot] .host = some h →
    let bank := fun x : Fin 3 => regionBase c .outputBanks (some k.robot) + x.val * g.nOut + k.index
    (k.used = none → SlotOf .engine [.engine] s fun t => t.engine = { s.engine with current := some { k with
      limitWords := k.limitWords ++
        [s.sram.readWord (regionBase c .limits none + 128 * k.robot.val + k.limitWords.length)] } }) ∧
    ∀ u, k.used = some u →
      (k.stage = .read →
        let v := s.sram.readWord (bank b)
        let f := u.foldl (fun x e => if e.offset = k.index then clampWord e x else x) v
        SlotOf .engine [.engine] s fun t => t.engine = { s.engine with
          current := some { k with stage := if f = v then .copy f else .writeBack f } }) ∧
      (∀ f, k.stage = .writeBack f → SlotOf .engine [.sram, .engine, .robots, .notice] s fun t =>
        Stores (bank b) f s t ∧
        t.robots = s.robots.set k.robot { s.robots[k.robot] with clamps := satInc s.robots[k.robot].clamps } ∧
        t.engine = { s.engine with current := some { k with stage := .copy f, first := some (k.first.getD k.index) } } ∧
        Raises (if k.first = none then [flagClamped] else []) s t ∧ NoticeKept s t ∧ LogsNothing s t) ∧
      ∀ f, k.stage = .copy f → SlotOf .engine [.sram, .engine] s fun t =>
        Stores (bank h) f s t ∧
        t.engine = { s.engine with current := some { k with stage := .read, index := k.index + 1 } }

/-- A slot of the mirror and ring writer stores the next word of the write-out in progress, or the first of the one at
the head of the list; the last word ends it, an event's or an outcome record's index then shown, OUTCOME_WRITTEN raised
for the latter, and the copies made (R78, R101, R180, R185). That the copies are one such write-out, unbroken, is the model's
choice (log 56). -/
def Sys2Proof.Claims.WriterSlots (s : State) : Prop :=
  ∀ (j : Job) (a : Nat) (v : Word) (xs : List (Nat × Word)) (rest : List Job),
    arbiter (processorWaiting s) s = some .writer → j ≠ .readImage →
    ((s.writer.current = some ⟨j, (a, v) :: xs⟩ ∧ s.writer.queue = rest) ∨
      (s.writer.current = none ∧ s.writer.queue = j :: rest ∧ jobWords s j = (a, v) :: xs)) →
    ∃ t, exec .memorySlot s = .next t ∧ Stores a v s t ∧ t.bus = (granting .writer s).bus ∧
      (xs ≠ [] → t.writer = { current := some ⟨j, xs⟩, queue := rest } ∧ Only [.sram, .bus, .writer] s t) ∧
      (xs = [] → t.writer.current = none ∧ rest <+: t.writer.queue ∧
        (∀ slot ws ix, j = .event slot ws ix →
          t.notice = { s.notice with shownIx := ix } ∧ Only [.sram, .bus, .writer, .notice] s t) ∧
        (∀ at0 ws ix, j = .outcome at0 ws ix → t.reject = { s.reject with shownIx := ix } ∧
          Raises [flagOutcomeWritten] s t ∧ NoticeKept s t ∧ Only [.sram, .bus, .writer, .notice, .reject] s t) ∧
        (j = .copies → t.loader = { s.loader with copied := true } ∧ Only [.sram, .bus, .writer, .loader] s t) ∧
        ((j = .capture ∨ ∃ m, j = .mirror m) → Only [.sram, .bus, .writer] s t))

/-- A slot of the mirror and ring writer in the reading of a staged image reads its next word into the Settings Loader;
the reading ends with the word that makes the image whole (R101, R183, R187). That it keeps the writer's slots from its
first word until it ends is the model's choice (log 56), and so is that it ends at once on a bad length word (log 34). -/
def Sys2Proof.Claims.StagedSlots (s : State) : Prop :=
  ∀ (l : List (Nat × Word)) (rest : List Job), arbiter (processorWaiting s) s = some .writer →
    ((s.writer.current = some ⟨.readImage, l⟩ ∧ s.writer.queue = rest) ∨
      (s.writer.current = none ∧ s.writer.queue = .readImage :: rest)) →
    let ws := s.loader.image ++ [s.sram.readWord (pageBase s + 1024 + s.loader.image.length)]
    let n := (ws.headD 0).toNat
    let whole := badLength n = true ∨ n ≤ ws.length
    ∃ t, exec .memorySlot s = .next t ∧ t.bus = (granting .writer s).bus ∧ t.writer.queue = rest ∧
      (whole → t.writer.current = none ∧ t.loader = { s.loader with image := ws, reading := false }) ∧
      (¬ whole → (∃ k, t.writer.current = some ⟨.readImage, k⟩) ∧ t.loader = { s.loader with image := ws }) ∧
      Only [.bus, .writer, .loader] s t

/-- A read of the processor, not held, takes its slot in a robot's window: the word of its offset in the HOST bank for the
output window, in the HOST_IN bank for the input window (R86; that a read brings the whole word, log 44). -/
def Sys2Proof.Claims.WindowReads (s : State) : Prop :=
  ∀ (x : Access) (input : Bool) (r : Fin 8) (base n k : Nat) (rc : Bool) (b : Fin 3),
    s.bus.access = some x → x.held = false → x.write = false → arbiter true s = some .processor →
    x.fate = .window input r base n k rc →
    (if input then inBank s.robots[r] .hostIn else outBank s.robots[r] .host) = some b →
    ∃ t, exec .memorySlot s = .next t ∧ OnlyAsks [.bus] s t ∧
      t.bus = { (granting .processor s).bus with access := none, readData := s.sram.readWord (base + b.val * n + k) }

/-- A write of the processor, not held, that passes its class test takes its slot: to a window, to a word of a class, to
LIMITS or a GUARDED region, to a notice word, to a request word or to the watched word it has the whole effect that the same
write has where it gets its slot at once (R85, R86, R91, R97, R100, R178, R179; that it takes this row's slot, log 33). -/
def Sys2Proof.Claims.WaitingWrites (s : State) : Prop :=
  ∀ (i : Instr) (a : Nat) (l : Lanes) (w : Word) (x : Access), asWrite s i = some (a, l, w) →
    s.bus.access = some x → x.held = false → x.write = true → x.addr = a → x.lanes = l → x.data = w →
    s.bus.device ≠ .loading → s.bus.device ≠ .reloading → x.fate = classify s true a l →
    (∀ r base n k rc, x.fate = .window false r base n k rc → checking s.robots[r] = false) →
    classTest s x.fate = none → arbiter true s = some .processor →
    exec .memorySlot s = exec i { s with bus := { s.bus with access := none } }

/-- MEMORY_SLOT: the arbiter grants one requester. With nobody waiting nothing changes. The processor's access, when the
slot is its own, is completed: a read brings the word of its address, or of its offset in the bank its window shows, a
write that passes is stored in its lanes or acts as the same write served at once, and a write whose class test fails at
that moment is refused, its slot left to the agents. An agent granted the slot moves its next word (R85, R86, R91, R92, R99,
R100, R101, R108, R110, R111, R126, R131, R183, R187; that a read brings the whole word whatever its byte lanes, that a
waiting write takes this row's slot too, that of several unfinished deposits the one started first is served, that the
reading of a staged image or the copies keep the writer's slots until they end, and that the reading ends at once on a bad
length word, is the model's choice: log 44, log 33, log 51, log 56 and log 34). The words that a write-out of the writer holds,
of every mirror, record, index and request word, are those of their layouts (R19, R20, R41, R57, R79, R81, R93, R119, R137,
R150, R164, R172, R180, R185, R190; 13.1 to 13.4; in the places the layouts leave open by the model's choice, log 18, log 37,
log 47, log 48, log 49, log 54, log 55, log 57, log 58, log 61). -/
def Obligations.MemorySlotServesOneRequester : Prop :=
  ∀ s : State, ArbiterOrder s ∧
    (s.bus.access = none → (∀ g, agentWaiting s g = false) → exec .memorySlot s = .next s) ∧
    (∀ x : Access, s.bus.access = some x → x.held = false → arbiter true s = some .processor →
      (x.write = false → x.fate = .pass →
        ∃ t, exec .memorySlot s = .next t ∧ OnlyAsks [.bus] s t ∧
          t.bus = { (granting .processor s).bus with access := none, readData := s.sram.readWord x.addr }) ∧
      (x.write = true → x.fate = .pass →
        ∃ t, exec .memorySlot s = .next t ∧ OnlyAsks [.sram, .bus] s t ∧ StoresLanes x.addr x.lanes x.data s t ∧
          t.bus = { (granting .processor s).bus with access := none }) ∧
      ∀ cause, x.write = true → classTest s x.fate = some cause →
        ∃ t, exec .memorySlot s = .next t ∧ t.notice.flags.getLsbD flagRefused = true ∧
          t.bus = { busRefusing s x.addr x.lanes x.data cause with waits := t.bus.waits } ∧
          (∀ g, arbiter false s = some g → t.bus.waits = (granting g s).bus.waits) ∧
          (arbiter false s = none → t.bus.waits = s.bus.waits ∧ ∀ b, t.sram.readByte b = s.sram.readByte b)) ∧
    WindowReads s ∧ WaitingWrites s ∧ ExchangeSlots s ∧ EngineSlots s ∧ WriterSlots s ∧ StagedSlots s ∧ WriteOutsShow s

/-- NOTICE_FLAGS_WRITE, NOTICE_ENABLES_WRITE and GLOBAL_ENABLE_WRITE: the flags under 1s in the lanes carried clear and
the word shows the new set; the enables are the stored word, the global enable its bit 0; NOTICE_N is asserted exactly
while the global enable is 1 and some flag whose enable is 1 is set (R91, R178, R179). -/
def Obligations.NoticeWordsTakeWrites : Prop :=
  (∀ s : State, noticeAsserted s = true ↔ s.notice.globalEnable = true ∧
    ∃ n, s.notice.flags.getLsbD n = true ∧ s.notice.enables.getLsbD n = true) ∧
  ∀ (s : State) (c : Settings) (l : Lanes) (w : Word), Serving s c →
    (∃ t, exec (.noticeFlagsWrite l w) s = .next t ∧
      t.notice = { s.notice with flags := s.notice.flags &&& ~~~ (w &&& laneMask l) } ∧
      Stores c.page (s.notice.flags &&& ~~~ (w &&& laneMask l)) s t ∧ t.bus = (granting .processor s).bus ∧
      OnlyAsks [.sram, .notice, .bus] s t) ∧
    (∃ t, exec (.noticeEnablesWrite l w) s = .next t ∧ StoresLanes (c.page + 1) l w s t ∧
      t.notice = { s.notice with enables := t.sram.readWord (c.page + 1) } ∧
      (l = .both → s.sram.wf = true → t.notice.enables = w) ∧ t.bus = (granting .processor s).bus ∧
      OnlyAsks [.sram, .notice, .bus] s t) ∧
    (∃ t, exec (.globalEnableWrite l w) s = .next t ∧ StoresLanes (c.page + 2) l w s t ∧
      t.notice = { s.notice with globalEnable := (t.sram.readWord (c.page + 2)).getLsbD 0 } ∧
      (l ≠ .upper → s.sram.wf = true → t.notice.globalEnable = w.getLsbD 0) ∧ t.bus = (granting .processor s).bus ∧
      OnlyAsks [.sram, .notice, .bus] s t)

/-- OUTCOME_READ and EVENT_READ: an index in the occupied span becomes the read index, any other is ignored with
OUT_OF_SPAN; the word shows the index in force (R80, R181). -/
def Obligations.ReadIndicesStayInTheSpan : Prop :=
  ∀ (s : State) (c : Settings) (w : Word), Serving s c →
    let n := outcomeSlots s
    let spanned := fun (n r v : Nat) => w.toNat < n ∧ (w.toNat + n - r) % n ≤ (v + n - r) % n
    (spanned n s.reject.readIx s.reject.writeIx →
      ∃ t, exec (.outcomeRead w) s = .next t ∧ t.reject = { s.reject with readIx := w.toNat } ∧
        Answers c 21 w [.reject] s t ∧ LogsNothing s t ∧ Raises [] s t) ∧
    (¬ spanned n s.reject.readIx s.reject.writeIx →
      ∃ t, exec (.outcomeRead w) s = .next t ∧ Answers c 21 (BitVec.ofNat 16 s.reject.readIx) [] s t ∧
        Logs .requestIgnored 37 6 w s t ∧ Raises [] s t) ∧
    (spanned 64 s.notice.readIx s.notice.writeIx →
      ∃ t, exec (.eventRead w) s = .next t ∧
        t.notice = { s.notice with readIx := w.toNat, status := s.notice.status.set 22 w } ∧
        Stores (c.page + 38) w s t ∧ t.bus = (granting .processor s).bus ∧ OnlyAsks [.sram, .notice, .bus] s t) ∧
    (¬ spanned 64 s.notice.readIx s.notice.writeIx →
      ∃ t, exec (.eventRead w) s = .next t ∧ Answers c 22 (BitVec.ofNat 16 s.notice.readIx) [] s t ∧
        Logs .requestIgnored 38 6 w s t ∧ Raises [] s t)

/-- GENERAL_OUT: each configured general output in the mask takes its level, every other keeps its own; the word shows
the configured outputs and the held levels (R171). -/
def Obligations.GeneralOutSetsMaskedLevels : Prop :=
  ∀ (s : State) (c : Settings) (mask levels : Byte), Serving s c →
    ∃ t, exec (.generalOut mask levels) s = .next t ∧
      (∀ n, t.lines.held.getLsbD n =
        if mask.getLsbD n && (configuredOutputs s).getLsbD n then levels.getLsbD n else s.lines.held.getLsbD n) ∧
      t.lines = { s.lines with held := t.lines.held } ∧
      Answers c 23 (configuredOutputs s ++ t.lines.held) [.lines] s t ∧ LogsNothing s t ∧ Raises [] s t

/-- REQUEST_BAD_VALUE and REFUSAL_REARM: a word that names no action of its request is ignored with BAD_VALUE and shown
as IGNORED; a rearm empties the refusal record and keeps the count (R63, R93, R142, R160, R176). -/
def Obligations.BadValuesAndRearm : Prop :=
  ∀ (s : State) (c : Settings) (w : Word), Serving s c →
    (BadTarget.control.bad w = true →
      ∃ t, exec (.requestBadValue .control w) s = .next t ∧ Logs .requestIgnored 40 5 w s t ∧ Raises [] s t ∧
        Answers c 24 (w &&& 0x00FF) [] s t) ∧
    (BadTarget.policy.bad w = true →
      ∃ t, exec (.requestBadValue .policy w) s = .next t ∧ Logs .requestIgnored 34 5 w s t ∧ Raises [] s t ∧
        Answers c 18 (BitVec.ofNat 16 (policyCode s.reject.policy)) [] s t) ∧
    (BadTarget.grant.bad w = true →
      ∃ t st, exec (.requestBadValue .grant w) s = .next t ∧ Logs .requestIgnored 32 5 w s t ∧ Raises [] s t ∧
        t.grant = { s.grant with refused := satInc s.grant.refused } ∧ Answers c 16 st [.grant] s t ∧
        st = BitVec.ofNat 16 (levelCode (grantedLevel s) * 256) |||
          (if s.grant.isOpen then s.grant.duration.setWidth 16 else 0)) ∧
    (BadTarget.port.bad w = true →
      ∃ t st, exec (.requestBadValue .port w) s = .next t ∧ Logs .requestIgnored 33 5 w s t ∧ Raises [] s t ∧
        Answers c 17 st [] s t ∧ st >>> 12 = 0 ∧ st &&& 0x00FF = w &&& 0x00FF) ∧
    ∃ t, exec .refusalRearm s = .next t ∧ t.bus = { (granting .processor s).bus with record := none } ∧
      Stores (c.page + 40) 0x0104 s t ∧ t.notice = { s.notice with status := s.notice.status.set 24 0x0104 } ∧
      OnlyAsks [.sram, .notice, .bus] s t

/-! ### Output banks (06) -/

/-- The mask of a HANDOVER as reduced: RECIPE leaves it where the robot has no recipe section or the effective level is
below ADJUST (R106). -/
def Sys2Proof.Claims.maskTaken (s : State) (g : RobotCfg) (w : Word) : BitVec 2 :=
  if g.nOut ≠ g.motion ∧ atLeast (effectiveLevel s) .adjust = true then w.setWidth 2 else w.setWidth 2 &&& 1

/-- RECIPE is dropped for want of level, which is counted and reported (R106). -/
def Sys2Proof.Claims.dropsRecipe (s : State) (g : RobotCfg) (w : Word) : Prop :=
  g.nOut ≠ g.motion ∧ effectiveLevel s ∈ [Level.none, .view] ∧ w.getLsbD 1 = true

/-- A HANDOVER of a configured robot with a value of 1 to 3 and no hand-over pending. -/
def Sys2Proof.Claims.HandoverOf (s : State) (c : Settings) (g : RobotCfg) (r : Fin 8) (w : Word) : Prop :=
  Serving s c ∧ c.robots[r] = some g ∧ w ≠ 0 ∧ w.toNat ≤ 3 ∧ s.robots[r].pendingMask = none

/-- HANDOVER performed: with no CHECK bank the HOST bank becomes CHECK with the reduced mask, and the lowest FREE bank,
or the superseded READY bank whose mask is united in, becomes HOST; the bank joins the engine's queue (R104, R107). -/
def Obligations.HandoverIsPerformed : Prop :=
  ∀ (s : State) (c : Settings) (g : RobotCfg) (r : Fin 8) (w : Word) (h f : Fin 3), HandoverOf s c g r w →
    checking s.robots[r] = false → maskTaken s g w ≠ 0 → outBank s.robots[r] .host = some h →
    let frees := outBank s.robots[r] .free = some f
    let m := maskTaken s g w
    frees ∨ (outBank s.robots[r] .free = none ∧ outBank s.robots[r] .ready = some f) →
    ∃ t, exec (.handover r w) s = .next t ∧
      t.robots[r].out = (s.robots[r].out.set h .check).set f .host ∧
      (frees → t.robots[r].masks[h] = m ∧ t.robots[r].superseded = s.robots[r].superseded) ∧
      (¬ frees → t.robots[r].masks[h] = m ||| s.robots[r].masks[f] ∧
        t.robots[r].superseded = satInc s.robots[r].superseded) ∧
      t.robots[r].handovers = satInc s.robots[r].handovers ∧ t.robots[r].pendingMask = none ∧
      (∀ q, q ≠ r → t.robots[q] = s.robots[q]) ∧
      t.engine = { s.engine with queue := s.engine.queue ++ [r] } ∧
      (dropsRecipe s g w → t.robots[r].recipeDrops = satInc s.robots[r].recipeDrops ∧
        Logs .recipeDropped (BitVec.ofNat 16 r.val) (BitVec.ofNat 16 (levelCode (effectiveLevel s))) w s t) ∧
      (¬ dropsRecipe s g w → t.robots[r].recipeDrops = s.robots[r].recipeDrops ∧ LogsNothing s t) ∧
      Raises [] s t ∧ Answers c ⟨r.val, by omega⟩ (0x1800 ||| m.setWidth 16) [.robots, .engine] s t

/-- Two events are appended, one after the other, at one local time and with the ring read no further (R180). -/
def Sys2Proof.Claims.LogsTwo (first second : State → State → Prop) (s t : State) : Prop :=
  ∃ u : State, u.cfg = s.cfg ∧ u.time = s.time ∧ u.notice.readIx = s.notice.readIx ∧ Asks u t ∧ first s u ∧ second u t

/-- HANDOVER not performed. Pended: with a CHECK bank the reduced mask is kept for the completion. Overrun: with a
hand-over already pending the request is counted and flagged. Ignored: a value of 0 or above 3, a robot not configured,
or a mask that the reduction leaves empty (BAD_VALUE, NOT_CONFIGURED, and BAD_VALUE where the robot has no recipe
section; for want of level RECIPE_DROPPED, counted, and then GRANT_LEVEL). No role and no mask changes (R104, R105,
R106). -/
def Obligations.HandoverPendsOverrunsOrIsIgnored : Prop :=
  (∀ (s : State) (c : Settings) (g : RobotCfg) (r : Fin 8) (w : Word),
    (HandoverOf s c g r w → checking s.robots[r] = true → maskTaken s g w ≠ 0 →
      ∃ t, exec (.handover r w) s = .next t ∧ t.robots[r].pendingMask = some (maskTaken s g w) ∧
        t.robots[r].out = s.robots[r].out ∧ t.robots[r].masks = s.robots[r].masks ∧
        (∀ q, q ≠ r → t.robots[q] = s.robots[q]) ∧
        Answers c ⟨r.val, by omega⟩ (0x2C00 ||| (maskTaken s g w).setWidth 16) [.robots] s t) ∧
    ∀ m, Serving s c → c.robots[r] = some g → w ≠ 0 → w.toNat ≤ 3 → s.robots[r].pendingMask = some m →
      ∃ t st, exec (.handover r w) s = .next t ∧
        t.robots = s.robots.set r { s.robots[r] with
          overruns := satInc s.robots[r].overruns, result := .overrun, maskByte := w.setWidth 8 } ∧
        Raises [flagOverrun] s t ∧ LogsNothing s t ∧ Answers c ⟨r.val, by omega⟩ st [.robots] s t ∧
        st = 0x3400 ||| (if checking s.robots[r] then 0x0800 else 0) ||| (w &&& 0x00FF)) ∧
  ∀ (s : State) (c : Settings) (r : Fin 8) (w : Word), Serving s c →
    let ignored := ∃ t st, exec (.handover r w) s = .next t ∧ Answers c ⟨r.val, by omega⟩ st [.robots] s t ∧
      st.toNat / 4096 = 0 ∧ t.robots[r].out = s.robots[r].out ∧ t.robots[r].masks = s.robots[r].masks ∧
      t.robots[r].pendingMask = s.robots[r].pendingMask ∧ (∀ q, q ≠ r → t.robots[q] = s.robots[q])
    let logged := fun reason : Word => ∃ t, exec (.handover r w) s = .next t ∧
      Logs .requestIgnored (16 + BitVec.ofNat 16 r.val) reason w s t
    ((w = 0 ∨ 3 < w.toNat) → ignored ∧ logged 5) ∧
    (w ≠ 0 → w.toNat ≤ 3 → c.robots[r] = none → ignored ∧ logged 7) ∧
    ∀ g, HandoverOf s c g r w → maskTaken s g w = 0 → ignored ∧ (g.nOut = g.motion → logged 5) ∧
      (g.nOut ≠ g.motion → dropsRecipe s g w ∧
        ∃ t, exec (.handover r w) s = .next t ∧ t.robots[r].recipeDrops = satInc s.robots[r].recipeDrops ∧
          LogsTwo (Logs .recipeDropped (BitVec.ofNat 16 r.val) (BitVec.ofNat 16 (levelCode (effectiveLevel s))) w)
            (Logs .requestIgnored (16 + BitVec.ofNat 16 r.val) 4 w) s t)

/-- One word lies below another in an entry's kind: as two's-complement values for a SIGNED one, else as 0 to 65,535
(R110). -/
def Sys2Proof.Claims.below (signed : Bool) (x y : Word) : Bool :=
  if signed then decide (x.toInt < y.toInt) else decide (x.toNat < y.toNat)

/-- CHECK_START and LIMIT_PASS_END: the idle engine takes the bank at its queue's head, its wait count 0; when the 128
limit words are read the entries kept for the word pass are exactly the valid ones that are not bad, in their order, and
bad ones are counted and reported once; a kept entry makes a word below its minimum the minimum, a word above its maximum
the maximum, and leaves any other word as it is (R99, R108, R109, R110). -/
def Obligations.ChecksStartAndJudgeLimits : Prop :=
  ∀ s : State,
    (∀ (r : Fin 8) (rs : List (Fin 8)), s.engine.current = none → s.engine.queue = r :: rs →
      let k : CheckRun := ⟨r, [], none, 0, .read, none⟩
      exec .checkStart s = .next { s with
        engine := { s.engine with current := some k }, bus := { s.bus with waits := { s.bus.waits with engine := 0 } } }) ∧
    ∀ (k : CheckRun) (g : RobotCfg), s.engine.current = some k → k.used = none → 128 ≤ k.limitWords.length →
      robotCfg s k.robot = some g →
      let v := fun i j : Nat => k.limitWords.getD (4 * i + j) 0
      let valid := fun i : Nat => (v i 1).getLsbD 15
      let fits := fun i : Nat => decide ((v i 0).toNat < g.motion) && !below ((v i 1).getLsbD 0) (v i 3) (v i 2)
      let bad := (List.range 32).filter fun i => valid i && !fits i
      let u : List LimitEntry := ((List.range 32).filter fun i => valid i && fits i).map fun i =>
        ⟨(v i 0).toNat, (v i 1).getLsbD 0, v i 2, v i 3⟩
      ∃ t, exec .limitPassEnd s = .next t ∧ t.engine = { s.engine with current := some { k with used := some u } } ∧
        (bad = [] → t.robots = s.robots ∧ LogsNothing s t) ∧
        (∀ i js, bad = i :: js →
          t.robots = s.robots.set k.robot { s.robots[k.robot] with badEntries := satInc s.robots[k.robot].badEntries } ∧
          Logs .limitEntryBad (BitVec.ofNat 16 k.robot.val) (BitVec.ofNat 16 i) (BitVec.ofNat 16 bad.length) s t) ∧
        Raises [] s t ∧ NoticeKept s t ∧ OnlyAsks [.engine, .robots, .notice] s t ∧
        ∀ e ∈ u, below e.signed e.hi e.lo = false ∧ ∀ x : Word,
          (below e.signed x e.lo = true → clampWord e x = e.lo) ∧ (below e.signed e.hi x = true → clampWord e x = e.hi) ∧
          (below e.signed x e.lo = false → below e.signed e.hi x = false → clampWord e x = x)

/-- The check in progress has written its last word. -/
def Sys2Proof.Claims.CheckWritten (s : State) (c : Settings) (k : CheckRun) (g : RobotCfg) (b : Fin 3) : Prop :=
  s.cfg = some c ∧ s.engine.current = some k ∧ k.used.isSome = true ∧ c.robots[k.robot] = some g ∧ g.nOut ≤ k.index ∧
    outBank s.robots[k.robot] .check = some b

/-- The HANDOVER word of robot `r` is rewritten: the result and the mask of its latest request kept, CHECKING as given,
PENDING clear; in ACTIVE and RELOADING the writer is asked for it (R113). -/
def Sys2Proof.Claims.HandoverRewritten (r : Fin 8) (underCheck : Bool) (s t : State) : Prop :=
  let b := s.robots[r]
  t.notice.status = s.notice.status.set (⟨r.val, by omega⟩ : Fin 26)
      (BitVec.ofNat 16 (resultCode b.result * 4096) ||| (if underCheck then 0x0800 else 0) ||| b.maskByte.setWidth 16) ∧
    (s.bus.device = .active ∨ s.bus.device = .reloading →
      Job.mirror (.request (⟨r.val, by omega⟩ : Fin 26)) ∈ t.writer.queue)

/-- The access held on the output window of robot `r`, if there is one (R87). -/
def Sys2Proof.Claims.heldOn (s : State) (r : Fin 8) : Option Access :=
  s.bus.access.filter fun x => x.held && (match x.fate with | .window false q _ _ _ _ => q == r | _ => false)

/-- It is a write of the recipe section at a level below ADJUST, refused when its hold ends (R85, R88, Law 3). -/
def Sys2Proof.Claims.heldRefused (s : State) (r : Fin 8) : Bool :=
  (heldOn s r).any fun x => x.write && (match x.fate with | .window _ _ _ _ _ rc => rc | _ => false) &&
    (effectiveLevel s == .none || effectiveLevel s == .view)

/-- Beside robot `r`, the engine and the HANDOVER word a completed check changes nothing but what the access held on the
robot's window does; one that waits for its slot, or is held on the window of another robot, goes on as it is (R87, R112). -/
def Sys2Proof.Claims.CheckFrame (s t : State) (r : Fin 8) : Prop :=
  (∀ q, q ≠ r → t.robots[q] = s.robots[q]) ∧ LogsNothing s t ∧
    Raises (if heldRefused s r then [flagRefused] else []) s t ∧ NoticeFrame s t ∧
    OnlyAsks ([.robots, .engine, .notice] ++ if (heldOn s r).isSome then [.bus, .sram] else []) s t

/-- CHECK_COMPLETE, whatever access is in flight: CHECK becomes READY, an older READY is superseded with its mask united in, the first
clamped offset is that of the check if it clamped a word, the queue moves on; then a read held on the robot's window is
completed at the HOST bank in a slot of the processor's, after the agents whose turn stands before it; a held write makes
its class test then and is stored there in its lanes, or refused without a slot; any other access in flight stays as it is;
and a pending hand-over is performed: HOST becomes CHECK with the kept mask, the
third bank, FREE by then, HOST, or where it is LINK the new READY, superseded with its mask united in; the HANDOVER word is
rewritten (R85, R87, R88, R92, R99, R107, R111, R112, R113; that the release and the slots stand within the command is the
model's choice, log 35, and that a read brings the whole word whatever its byte lanes, log 44). -/
def Obligations.CheckCompletesIntoReady : Prop :=
  ∀ (s : State) (c : Settings) (k : CheckRun) (g : RobotCfg) (b : Fin 3), CheckWritten s c k g b →
    LawOne s.robots[k.robot] →
    let r := k.robot
    let timely := heldOn s r = none ∨ ∀ g, agentWaiting s g = true → waitOf s.bus.waits g < 4
    (s.robots[r].pendingMask = none →
      ∃ t, exec .checkComplete s = .next t ∧
        t.engine = { queue := s.engine.queue.tail, current := none } ∧
        t.robots[r].checks = satInc s.robots[r].checks ∧ t.robots[r].out[b] = .ready ∧
        t.robots[r].firstClamped = (match k.first with | some j => BitVec.ofNat 16 j | none => s.robots[r].firstClamped) ∧
        (outBank s.robots[r] .ready = none → t.robots[r].out = s.robots[r].out.set b .ready ∧
          t.robots[r].masks[b] = s.robots[r].masks[b] ∧ t.robots[r].superseded = s.robots[r].superseded) ∧
        (∀ y, outBank s.robots[r] .ready = some y →
          t.robots[r].out = (s.robots[r].out.set b .ready).set y .free ∧
          t.robots[r].masks[b] = s.robots[r].masks[b] ||| s.robots[r].masks[y] ∧
          t.robots[r].superseded = satInc s.robots[r].superseded) ∧
        HandoverRewritten r false s t ∧ (timely → CheckFrame s t r)) ∧
    (∀ (m : BitVec 2) (h z : Fin 3), s.robots[r].pendingMask = some m →
      outBank s.robots[r] .host = some h → z ≠ b → z ≠ h →
      let x := s.robots[r]
      ∃ t, exec .checkComplete s = .next t ∧ t.robots[r].pendingMask = none ∧ checking t.robots[r] = true ∧
        t.engine = { queue := s.engine.queue.tail ++ [r], current := none } ∧
        t.robots[r].checks = satInc x.checks ∧ t.robots[r].handovers = satInc x.handovers ∧
        t.robots[r].firstClamped = (match k.first with | some j => BitVec.ofNat 16 j | none => x.firstClamped) ∧
        (x.out[z] = .link → t.robots[r].out = (x.out.set h .check).set b .host ∧
          t.robots[r].masks[h] = m ||| x.masks[b] ∧ t.robots[r].masks[z] = x.masks[z] ∧
          t.robots[r].superseded = satInc x.superseded) ∧
        (x.out[z] ≠ .link → t.robots[r].out = ((x.out.set h .check).set b .ready).set z .host ∧
          t.robots[r].masks[h] = m ∧
          t.robots[r].masks[b] = (if x.out[z] = .ready then x.masks[b] ||| x.masks[z] else x.masks[b]) ∧
          t.robots[r].superseded = (if x.out[z] = .ready then satInc x.superseded else x.superseded)) ∧
        HandoverRewritten r true s t ∧ (timely → CheckFrame s t r)) ∧
    (∀ (x : Access) (base n j : Nat) (rc : Bool) (h : Fin 3), s.bus.access = some x → x.held = true →
      x.fate = .window false r base n j rc → outBank s.robots[r] .host = some h →
      let a := base + h.val * n + j
      let noneLate := ∀ g, agentWaiting s g = true → waitOf s.bus.waits g < 4
      let belowAdjust := effectiveLevel s = .none ∨ effectiveLevel s = .view
      ∃ t, exec .checkComplete s = .next t ∧ t.bus.access = none ∧
        (x.write = false → t.bus.readData = t.sram.readWord a ∧
          (noneLate → t.sram = s.sram ∧
            t.bus = { (granting .processor s).bus with access := none, readData := t.bus.readData })) ∧
        (x.write = true → rc = false ∨ ¬ belowAdjust →
          (s.sram.wf = true → (x.lanes ≠ .upper → t.sram.readByte (2 * a) = x.data.setWidth 8) ∧
            (x.lanes ≠ .lower → t.sram.readByte (2 * a + 1) = (x.data >>> 8).setWidth 8)) ∧
          (noneLate → StoresLanes a x.lanes x.data s t ∧ t.bus = { (granting .processor s).bus with access := none })) ∧
        (x.write = true → rc = true → belowAdjust → t.sram = s.sram ∧
          t.bus = busRefusing s x.addr x.lanes x.data .grantLevel ∧ t.notice.flags.getLsbD flagRefused = true))

/-! ### Robot cycles and answers (07) -/

/-- A frame below the least length Ethernet allows, 60 bytes before the check, is filled up to it with zero bytes (R191;
the length itself, log 53). -/
def Sys2Proof.Claims.padded (bs : List Byte) : List Byte := bs ++ List.replicate (60 - bs.length) 0

/-- What leaves the port of a frame ended in transmission: some of its bytes, the first among them, padded and closed by a
frame check that is not theirs (R126, R127, R191; how much went out and the check are free, log 11). -/
def Sys2Proof.Claims.EndedFrame (x : Sending) (sent : List Byte) : Prop :=
  ∃ (bs : List Byte) (check : BitVec 32), sent = padded bs ++ bytes32 check ∧ check ≠ Config.frameCheck (padded bs) ∧
    bs ≠ [] ∧ bs <+: x.frame.head ++ x.words.flatMap bytes16

/-- FRAME_TX_START and FRAME_TX_COMPLETE: the head of the send list goes into transmission, the reader's wait count 0;
with its words read it is sent whole, padded and closed by its frame check, its bits leave the LINK bank's mask, and its
cycle is the last one sent, with an answer DUE. A CYCLE that finds a frame in transmission ends it: some of its bytes have
gone out, padded and closed by a frame check that is not theirs, TX_DROPPED counts it for its robot, and nothing that a
frame sent whole would change is changed (R99, R115, R126, R127, R191; how much went out and the check are free, log 11;
the least length of a frame, log 53). -/
def Obligations.FramesAreSent : Prop :=
  ∀ s : State,
    (∀ (c : Settings) (d : Time) (x : Sending), s.cfg = some c → s.time.nextCycle = some d →
      reached d s.time.now = true → s.field.sending = some x → x.frame.head ≠ [] →
      let b := s.robots[x.frame.robot]
      ∃ t, exec .cycle s = .next t ∧ t.field.sending = none ∧ EndedFrame x t.field.lastSent ∧
        (∀ f ∈ t.field.sendList, f.cycle = s.time.cycleNumber) ∧
        t.robots[x.frame.robot].lastCycleSent = b.lastCycleSent ∧ t.robots[x.frame.robot].lastSend = b.lastSend ∧
        ((∀ f ∈ s.field.sendList, f.robot ≠ x.frame.robot) →
          t.robots[x.frame.robot].txDropped = satInc b.txDropped)) ∧
    (∀ (f : TxFrame) (fs : List TxFrame), s.field.sending = none → s.field.sendList = f :: fs →
      exec .frameTxStart s = .next { s with
        field := { s.field with sending := some ⟨f, []⟩, sendList := fs }
        bus := { s.bus with waits := { s.bus.waits with reader := 0 } } }) ∧
    ∀ x : Sending, s.field.sending = some x → x.frame.len ≤ x.words.length →
      let r := x.frame.robot
      let cleared := match outBank s.robots[r] .link with
        | some l => s.robots[r].masks.set l (s.robots[r].masks[l] &&& ~~~ x.frame.mask)
        | none => s.robots[r].masks
      let sent := padded (x.frame.head ++ x.words.flatMap bytes16)
      ∃ t, exec .frameTxComplete s = .next t ∧
        t.field = { s.field with sending := none, lastSent := sent ++ bytes32 (Config.frameCheck sent) } ∧
        t.robots = s.robots.set r { s.robots[r] with
          masks := cleared
          lastCycleSent := some x.frame.cycle, lastSend := some s.time.now, answerState := .due
          answer := s.robots[r].answer.map fun a => { a with newer := true } } ∧
        OnlyAsks [.field, .robots] s t

/-- FRAME_ARRIVAL_START and FRAME_ADMISSION: a frame that begins to arrive is stamped with local time; it meets the six
tests in their order, each with its count, and one that passes them is admitted (R3, R161). That a byte the frame does not
hold reads as 0 is the model's choice (log 15), and that a VERDICT is held for the camera the port's role names at admission
is its reading (log 16). -/
def Obligations.FramesMeetTheAdmissionTests : Prop :=
  (∀ (s : State) (bs : List Byte), s.field.receiving = none →
    exec (.frameArrivalStart bs) s =
      .next { s with field := { s.field with receiving := some ⟨s.time.now, bs, .arriving⟩ } }) ∧
  ∀ (s : State) (rx : Receiving), s.field.receiving = some rx → rx.stage = .arriving →
    let b := rx.bytes
    let becomes := fun (st : RxStage) (w : SwitchUnit) => ∃ t, exec .frameAdmission s = .next t ∧
      t.field = { s.field with receiving := some { rx with stage := st } } ∧ t.switch = w ∧ Raises [] s t ∧
      LogsNothing s t ∧ NoticeKept s t ∧ OnlyAsks [.field, .switch, .notice] s t
    (s.bus.device ≠ .active → becomes .discarded { s.switch with inactive := satInc s.switch.inactive }) ∧
    ∀ c : Settings, s.bus.device = .active → s.cfg = some c →
      let untagged := b.length < 16 ∨ be16 b 12 ≠ c.ports.tagMarker ∨ byteAt b 15 ≠ 0
      (untagged → becomes .discarded { s.switch with untagged := satInc s.switch.untagged }) ∧
      (¬ untagged → 16 ≤ (byteAt b 14).toNat → becomes .discarded { s.switch with badPort := satInc s.switch.badPort }) ∧
      ∀ p : Fin 16, ¬ untagged → (byteAt b 14).toNat = p.val →
        let x := s.switch.ports[p]
        let kind := byteAt b 18
        (be16 b 16 ≠ c.ports.hallType →
          becomes .discarded { s.switch with foreignType := satInc s.switch.foreignType }) ∧
        (be16 b 16 = c.ports.hallType → (x.quarantined = true ∨ x.desired = false) →
          becomes .discarded { s.switch with blocked := satInc s.switch.blocked }) ∧
        (be16 b 16 = c.ports.hallType → x.quarantined = false → x.desired = true →
          (∀ r, x.role = .robot r → kind = 2 → (byteAt b 19).toNat = r.val →
            becomes (.answer p r .arriving) s.switch) ∧
          (∀ k, x.role = .camera k → kind = 3 → becomes (.held p (.verdict k)) s.switch) ∧
          (x.role = .hall → kind = 4 → becomes (.held p .time) s.switch) ∧
          ((∀ r, x.role = .robot r → kind ≠ 2 ∨ (byteAt b 19).toNat ≠ r.val) → (∀ k, x.role = .camera k → kind ≠ 3) →
            (x.role = .hall → kind ≠ 4) →
            ∃ t d, exec .frameAdmission s = .next t ∧
              t.field = { s.field with receiving := some { rx with stage := .discarded } } ∧
              t.switch = { s.switch with ports := s.switch.ports.set p { x with misplaced := satInc8 x.misplaced } } ∧
              Logs .frameMisplaced (BitVec.ofNat 16 p.val) (BitVec.ofNat 8 p.val ++ kind) d s t ∧
              ((∃ r, x.role = .robot r) → kind = 2 → d = (byteAt b 19).setWidth 16) ∧
              ((¬ ∃ r, x.role = .robot r) ∨ kind ≠ 2 → d = BitVec.ofNat 16 (roleCode x.role)) ∧
              OnlyAsks [.field, .switch, .notice] s t))

/-- FRAME_RECEPTION_END otherwise: a discarded frame is only gone; a held frame with a failed check counts there alone;
an answer that was started ends with the check's result: good, it waits for its deposit; failed, its bank is FREE, it is
missed and its state FAILED unless a newer frame was sent; where that brings a RUNNING or SAFE robot to its missed limit it
is LOST, with ROBOT_STATE and ROBOT_FAULT, no SAFE entry pending, and the queue of a RUNNING one emptied. A check is good
when its bytes are those of the frame's other bytes; one that differs fails, and so does a reception that ends without
(R37, R123, R132, R133, R134, R162, R191; the check's bytes as an operand, log 15; an abandoned ANSWER counted at its port,
log 45). -/
def Obligations.ReceptionEndsByTheCheck : Prop :=
  ∀ (s : State) (rx : Receiving), s.field.receiving = some rx →
    let counted := fun (p : Fin 16) (good : Bool) (t : State) =>
      let x := s.switch.ports[p]
      let y := if good then { x with admitted := x.admitted + 1 } else { x with failed := satInc8 x.failed }
      t.switch = { s.switch with ports := s.switch.ports.set p y }
    let good := some (Config.frameCheck rx.bytes)
    (∀ check, rx.stage = .discarded →
      ∃ t, exec (.frameReceptionEnd check) s = .next t ∧ t.field = { s.field with receiving := none } ∧
        OnlyAsks [.field] s t) ∧
    (∀ p x check, check ≠ good → rx.stage = .held p x →
      ∃ t, exec (.frameReceptionEnd check) s = .next t ∧ t.field = { s.field with receiving := none } ∧
        counted p false t ∧ OnlyAsks [.field, .switch] s t) ∧
    (∀ p r check, (rx.stage = .answer p r .settled ∨ rx.stage = .answer p r .abandoned) →
      ∃ t, exec (.frameReceptionEnd check) s = .next t ∧ t.field = { s.field with receiving := none } ∧
        counted p (decide (check = good)) t ∧ OnlyAsks [.field, .switch] s t) ∧
    ∀ p r a, rx.stage = .answer p r .started → s.robots[r].answer = some a →
      (∃ t, exec (.frameReceptionEnd good) s = .next t ∧ t.field = { s.field with receiving := none } ∧ counted p true t ∧
        t.robots = s.robots.set r { s.robots[r] with answer := some { a with ended := true } } ∧
        OnlyAsks [.field, .switch, .robots] s t) ∧
      (∀ check, check ≠ good →
        let b := s.robots[r]
        let limit := match robotCfg s r with | some g => g.missedLimit | none => 0
        let lost := decide (limit ≤ (satInc b.missedRun).toNat) && (b.context == .running || b.context == .safe)
        let empties := lost && b.context == .running
        ∃ t, exec (.frameReceptionEnd check) s = .next t ∧ counted p false t ∧
          t.robots = s.robots.set r { b with
            answer := none, inp := b.inp.set a.bank .free, answerState := if a.newer then b.answerState else .failed
            missedRun := satInc b.missedRun, missedTotal := satInc b.missedTotal
            context := if lost then .lost else b.context
            safePending := b.safePending && !lost
            ctxChanges := if lost then satInc b.ctxChanges else b.ctxChanges } ∧
          t.field = { s.field with receiving := none, deposits := s.field.deposits.filter (· ≠ r) } ∧
          LogsAll (if lost then contextEvents s r [b.context, .lost] else []) s t ∧
          Raises (if lost then [flagRobotFault] else []) s t ∧
          t.track = { s.track with
            queues := if empties then s.track.queues.set r [] else s.track.queues
            ring := t.track.ring, fillUnknowns := t.track.fillUnknowns } ∧
          (empties = false → t.track = s.track ∧ t.reject = s.reject) ∧
          (empties = true → Emptied s.track.queues[r] s t) ∧
          NoticeKept s t ∧ OnlyAsks [.field, .switch, .robots, .track, .reject, .notice] s t)

/-- What an answer in hand holds of a well-formed body: its report, its fill reports, and its deposit: the words carried,
min(declared, whole words there) of them, cut to n_in words and filled up with zeros, SHORT and LONG as they fall short of
n_in or go beyond it (R131). -/
def Sys2Proof.Claims.HoldsBody (a : Answer) (body : List Byte) (nIn : Nat) : Prop :=
  let f := (byteAt body 12).toNat
  let d := 13 + 7 * f
  let carried := min (be16 body d).toNat ((body.length - (d + 2)) / 2)
  a.left.length = nIn ∧ (∀ k < nIn, a.left[k]? = some (if k < carried then be16 body (d + 2 + 2 * k) else 0)) ∧
    a.short = decide (carried < nIn) ∧ a.long = decide (nIn < carried) ∧
    a.status = (if byteAt body 11 = 1 then .ready else .fault) ∧ a.fills.length = f ∧
    ∀ i < f, a.fills[i]? = some ⟨be32 body (13 + 7 * i), byteAt body (17 + 7 * i) == 1, be16 body (18 + 7 * i)⟩

/-- The form of an ANSWER body: at most 8 fill reports, a status of READY or FAULT, every fill result OK or BAD, and a body
that holds the declared input word count (R129; 13.6). That a byte the body does not hold reads as 0 is the model's choice
(log 15). -/
def Sys2Proof.Claims.AnswerFormed (body : List Byte) : Prop :=
  let f := (byteAt body 12).toNat
  f ≤ 8 ∧ (byteAt body 11 = 1 ∨ byteAt body 11 = 2) ∧
    (∀ i < f, byteAt body (17 + 7 * i) = 1 ∨ byteAt body (17 + 7 * i) = 2) ∧ 13 + 7 * f + 2 ≤ body.length

/-- ANSWER_START: a malformed, stale or duplicate answer is counted and nothing else; a valid one takes the lowest FREE
bank as FILLING, its state STARTED, and its deposit of the words carried, cut or padded to n_in, begins with SHORT and LONG
noted (R129, R130, R131). A valid one that finds a bank FILLING is left out here (log 13), and that a byte the body does not
hold reads as 0 is the model's choice (log 15). -/
def Obligations.AnswerStartJudges : Prop :=
  ∀ (s : State) (rx : Receiving) (p : Fin 16) (r : Fin 8) (g : RobotCfg), s.field.receiving = some rx →
    rx.stage = .answer p r .arriving → robotCfg s r = some g →
    let body := rx.bytes.drop 19
    let b := s.robots[r]
    let echoed := be16 body 1
    let counts := fun x : Robot => ∃ t, exec .answerStart s = .next t ∧ t.robots = s.robots.set r x ∧
      t.field = { s.field with receiving := some { rx with stage := .answer p r .settled } } ∧
      OnlyAsks [.field, .robots] s t
    (¬ AnswerFormed body → counts { b with badAnswers := satInc8 b.badAnswers }) ∧
    (AnswerFormed body →
      ((b.context = .offline ∨ b.lastCycleSent ≠ some echoed ∨ b.answerState = .none) →
        counts { b with staleAnswers := satInc b.staleAnswers }) ∧
      (b.context ≠ .offline → b.lastCycleSent = some echoed →
        ((b.answerState = .started ∨ b.answerState = .answered) →
          counts { b with dupAnswers := satInc b.dupAnswers }) ∧
        ((b.answerState = .due ∨ b.answerState = .failed) →
          (inBank b .free = none → counts { b with inputLost := satInc b.inputLost }) ∧
          ∀ k, inBank b .free = some k → inBank b .filling = none →
            ∃ t a, exec .answerStart s = .next t ∧ t.robots[r].inp = b.inp.set k .filling ∧
              t.robots[r].answerState = .started ∧ t.robots[r].answer = some a ∧ a.bank = k ∧ a.cycle = echoed ∧
              a.sample = be64 body 3 ∧ HoldsBody a body g.nIn ∧ a.next = 0 ∧ a.ended = false ∧ a.newer = false ∧
              (∀ d, b.lastSend = some d → t.robots[r].latency = satWordInt ((s.time.now - d).toInt / 1000)) ∧
              t.field = { s.field with receiving := some { rx with stage := .answer p r .started }
                                       deposits := s.field.deposits ++ [r] } ∧
              t.bus = { s.bus with waits := { s.bus.waits with
                deposit := if (depositor s).isNone then 0 else s.bus.waits.deposit } } ∧
              (∀ q, q ≠ r → t.robots[q] = s.robots[q]) ∧ OnlyAsks [.field, .robots, .bus] s t)))

/-- One fill report of robot `r` in state `s`: with its record in the ring, not EMPTY, of that robot, in the fill window
and without a result, the result and quantity are the record's, and its flags stay; the others are misdirected, duplicate
or late, and counted (R38). -/
def Sys2Proof.Claims.FillTaken (r : Fin 8) (e : FillReport) (s : State) : Prop :=
  let u := applyFill r e s
  let late := u = { s with track := { s.track with fillLates := satInc s.track.fillLates } }
  let filled := fun (q : Seq) => List.map fun y : Record => if y.seq = q then { y with fill := some ⟨e.ok, e.qty⟩ } else y
  (positionOf e.seq s = none → late) ∧
    ∀ (p : Nat) (x : Record) (c : Settings) (g : RobotCfg), positionOf e.seq s = some p → recordAt p s = some x →
      s.cfg = some c → c.robots[r] = some g →
      let inWindow := g.station ≤ p ∧ p < g.station + c.track.fillWindow
      (x.empty = true ∨ x.robot ≠ some r →
        u = { s with track := { s.track with misdirecteds := satInc s.track.misdirecteds } }) ∧
      (x.empty = false → x.robot = some r →
        (¬ inWindow → late) ∧
        (inWindow → x.fill = none →
          u = { s with track := { s.track with ring := filled x.seq s.track.ring }
                       reject := { s.reject with exitQueue := filled x.seq s.reject.exitQueue } }) ∧
        (inWindow → x.fill.isSome = true →
          u = { s with track := { s.track with fillDuplicates := satInc s.track.fillDuplicates } }))

/-- ANSWER_COMPLETE: a valid answer received whole and deposited: FILLING becomes FRESH with its metadata, an older
FRESH is lost, the answer state ANSWERED unless a newer frame was sent, the missed run 0, a STARTING or LOST robot
RUNNING with a ROBOT_STATE event, its report taken, a change of it with a ROBOT_REPORT event and one to FAULT with
ROBOT_FAULT, and its fill reports applied one by one in list order (R38, R123, R132). -/
def Obligations.AnswerCompletes : Prop :=
  (∀ (r : Fin 8) (e : FillReport) (s : State), FillTaken r e s) ∧
  ∀ (s : State) (r : Fin 8) (a : Answer), s.robots[r].answer = some a → a.ended = true → a.left = [] →
    let u := a.fills.foldl (fun x e => applyFill r e x) s
    let b := s.robots[r]
    let resumes := b.context == .starting || b.context == .lost
    ∃ t, exec (.answerComplete r) s = .next t ∧ t.robots[r].answer = none ∧
      (inBank b .fresh = none → t.robots[r].inp = b.inp.set a.bank .fresh ∧ t.robots[r].inputLost = b.inputLost) ∧
      (∀ o, inBank b .fresh = some o →
        t.robots[r].inp = (b.inp.set o .free).set a.bank .fresh ∧ t.robots[r].inputLost = satInc b.inputLost) ∧
      t.robots[r].infos[a.bank] = ⟨a.cycle, a.sample, a.short, a.long, true⟩ ∧
      t.robots[r].deposited = satInc b.deposited ∧
      t.robots[r].answerState = (if a.newer then b.answerState else .answered) ∧ t.robots[r].missedRun = 0 ∧
      t.robots[r].context = (if resumes then .running else b.context) ∧
      t.robots[r].ctxChanges = (if resumes then satInc b.ctxChanges else b.ctxChanges) ∧
      LogsAll ((if resumes then contextEvents s r [b.context, .running] else []) ++
        if b.reported = a.status then [] else
          [eventNow s .robotReport (BitVec.ofNat 16 r.val) (BitVec.ofNat 16 (reportedCode b.reported))
            (BitVec.ofNat 16 (reportedCode a.status))]) s t ∧
      Raises (flagInputFresh :: if b.reported ≠ a.status ∧ a.status = .fault then [flagRobotFault] else []) s t ∧
      (b.context = .lost → t.robots[r].stale = 0) ∧ t.robots[r].reported = a.status ∧
      (∀ q, q ≠ r → t.robots[q] = s.robots[q]) ∧ NoticeKept s t ∧
      t.field = { s.field with deposits := s.field.deposits.filter (· ≠ r) } ∧ t.track = u.track ∧
      t.reject = u.reject ∧ OnlyAsks [.field, .robots, .track, .reject, .notice] s t

/-- TAKE: FRESH becomes HOST_IN and the old HOST_IN FREE, shown with the low 12 bits of its cycle; without a FRESH bank
nothing changes; a robot that is not configured is ignored (R135). -/
def Obligations.TakeMovesTheFreshBank : Prop :=
  ∀ (s : State) (c : Settings) (r : Fin 8) (w : Word), Serving s c →
    (∀ (g : RobotCfg) (f h : Fin 3), c.robots[r] = some g → inBank s.robots[r] .fresh = some f →
      inBank s.robots[r] .hostIn = some h →
      ∃ t, exec (.take r w) s = .next t ∧
        t.robots = s.robots.set r { s.robots[r] with inp := (s.robots[r].inp.set h .free).set f .hostIn } ∧
        LogsNothing s t ∧ Raises [] s t ∧
        Answers c ⟨8 + r.val, by omega⟩ (0x1000 ||| (s.robots[r].infos[f].cycle &&& 0x0FFF)) [.robots] s t) ∧
    (∀ g : RobotCfg, c.robots[r] = some g → inBank s.robots[r] .fresh = none →
      ∃ t, exec (.take r w) s = .next t ∧ LogsNothing s t ∧ Raises [] s t ∧
        Answers c ⟨8 + r.val, by omega⟩ 0x4000 [] s t) ∧
    (c.robots[r] = none →
      ∃ t, exec (.take r w) s = .next t ∧ Logs .requestIgnored (24 + BitVec.ofNat 16 r.val) 7 w s t ∧ Raises [] s t ∧
        Answers c ⟨8 + r.val, by omega⟩ 0 [] s t)

/-! ### Cabinet lines (10) -/

/-- Only line `l` of the Line Unit differs, and is `x`. -/
def Sys2Proof.Claims.LineIs (l : Fin 16) (x : Line) (s t : State) : Prop :=
  t.lines = { s.lines with line := s.lines.line.set l x }

/-- Functions whose accepted changes no block takes (R168). -/
def Sys2Proof.Claims.quietFn (f : LineFn) : Bool :=
  match f with
  | .none | .presence | .generalIn => true
  | _ => false

/-- An encoder line's accepted change reaches the Tracking Unit: from the state `u` with the level accepted, the edge is the
pair of levels that the encoder lines then show; but for write-outs asked for, nothing else follows (R23, R168). -/
def Sys2Proof.Claims.EdgeDelivered (u t : State) : Prop :=
  OnlyAsks [] (encoderEdge (levelWith u .encoderA) (levelWith u .encoderB) u) t

/-- A change of EJECT_CONFIRM to active: every AWAITING entry fired no later than now leaves the list CONFIRMED and
counted, and with none the edge is a stray; the rest of the list stands (R71). -/
def Sys2Proof.Claims.ConfirmDelivered (s t : State) : Prop :=
  let hits := s.reject.list.filter fun e => e.deadline.isSome && reached e.fire s.time.now
  t.reject = { s.reject with
      list := s.reject.list.filter fun y => !hits.any fun e => e.seq == y.seq
      confirmed := hits.foldl (fun n _ => satInc n) s.reject.confirmed
      stray := if hits = [] then satInc s.reject.stray else s.reject.stray
      exitQueue := t.reject.exitQueue, writeIx := t.reject.writeIx, dropped := t.reject.dropped } ∧
    t.track = { s.track with ring := s.track.ring.map fun x =>
      if (hits.any fun e => e.seq == x.seq) = true then { x with confirm := some .confirmed } else x } ∧
    (hits = [] → t.reject = { s.reject with stray := satInc s.reject.stray } ∧ OnlyAsks [.lines, .reject] s t) ∧
    LogsNothing s t ∧ NoticeKept s t ∧ OnlyAsks [.lines, .track, .reject, .notice] s t

/-- The state with line `l` replaced. -/
def Sys2Proof.Claims.withLine (l : Fin 16) (x : Line) (s : State) : State :=
  { s with lines := { s.lines with line := s.lines.line.set l x } }

/-- LINE_PIN_CHANGE and DEBOUNCE_END: a RELEASED or DRIVEN line only keeps its pin; a SAMPLED line with a debounce takes a
candidate and a debounce end, without one it is accepted at once; at a debounce end the candidate is accepted. An accepted
change of an encoder line is delivered as an edge, two lines whose debounce ends are one moment as one edge; EJECT_CONFIRM
going active is delivered as a confirm edge, going inactive it changes nothing more. Where no block takes the line's
changes, or the level accepted is the one it had, nothing else moves (R23, R71, R167, R168; the one edge of two lines,
log 38). -/
def Obligations.LinesAreDebounced : Prop :=
  ∀ (s : State) (l : Fin 16) (high : Bool),
    let x := s.lines.line[l]
    (x.pin = high → exec (.linePinChange l high) s = .next s) ∧
    (x.pin ≠ high →
      ((x.record = none ∨ ∃ k, x.record = some k ∧ isInputFn k.fn = false) →
        ∃ t, exec (.linePinChange l high) s = .next t ∧ LineIs l { x with pin := high } s t ∧ OnlyAsks [.lines] s t) ∧
      ∀ k, x.record = some k → isInputFn k.fn = true →
        let level := xor high k.activeLow
        (k.fn ≠ .keyA → k.fn ≠ .keyB → k.debounceUs ≠ 0 →
          ∃ t, exec (.linePinChange l high) s = .next t ∧
            LineIs l { x with pin := high, candidate := level,
                              debounceEnd := some (s.time.now + BitVec.ofNat 64 (1000 * k.debounceUs)) } s t ∧
            OnlyAsks [.lines] s t) ∧
        ((k.fn = .keyA ∨ k.fn = .keyB ∨ k.debounceUs = 0) →
          ∃ t, exec (.linePinChange l high) s = .next t ∧
            LineIs l { x with pin := high, accepted := level, candidate := level, debounceEnd := none } s t ∧
            (quietFn k.fn = true ∨ x.accepted = level ∨ (k.fn = .ejectConfirm ∧ level = false) →
              OnlyAsks [.lines] s t) ∧
            (isEncoderFn k.fn = true → x.accepted ≠ level →
              EdgeDelivered
                (withLine l { x with pin := high, accepted := level, candidate := level, debounceEnd := none } s) t) ∧
            (k.fn = .ejectConfirm → level = true → x.accepted = false → ConfirmDelivered s t))) ∧
    ∀ k, x.record = some k → due x.debounceEnd s.time.now = true →
      let y := { x with accepted := x.candidate, debounceEnd := none }
      ∃ t, exec (.debounceEnd l) s = .next t ∧ t.lines.line[l] = y ∧
        (isEncoderFn k.fn = false →
          LineIs l y s t ∧
          (quietFn k.fn = true ∨ x.accepted = x.candidate ∨ (k.fn = .ejectConfirm ∧ x.candidate = false) →
            OnlyAsks [.lines] s t) ∧
          (k.fn = .ejectConfirm → x.candidate = true → x.accepted = false → ConfirmDelivered s t)) ∧
        ∀ other, (k.fn = .encoderA ∧ other = .encoderB) ∨ (k.fn = .encoderB ∧ other = .encoderA) →
          ((∀ m, sampledLine s other = some m → s.lines.line[m].debounceEnd ≠ x.debounceEnd) →
            LineIs l y s t ∧ (x.accepted = x.candidate → OnlyAsks [.lines] s t) ∧
              (x.accepted ≠ x.candidate → EdgeDelivered (withLine l y s) t)) ∧
          ∀ m, sampledLine s other = some m → s.lines.line[m].debounceEnd = x.debounceEnd →
            let z := s.lines.line[m]
            let u := withLine m { z with accepted := z.candidate, debounceEnd := none } (withLine l y s)
            (x.accepted = x.candidate → z.accepted = z.candidate → OnlyAsks [.lines] s t) ∧
              (x.accepted ≠ x.candidate ∨ z.accepted ≠ z.candidate → EdgeDelivered u t)

/-! ### Grants (08) -/

/-- The duration a request takes: 1 to 240 minutes (R143). -/
def Sys2Proof.Claims.minutesTaken (m : Byte) : Nat := max 1 (min 240 m.toNat)

/-- The SERVICE ports follow a grant that opened or closed: desired as given, a change with its command queued; no other
port is touched (R153). -/
def Sys2Proof.Claims.ServicePortsFollow (desired : Bool) (s t : State) : Prop :=
  ∀ p : Fin 16,
    (s.switch.ports[p].role ≠ .service → t.switch.ports[p] = s.switch.ports[p]) ∧
    (s.switch.ports[p].role = .service → t.switch.ports[p] = { s.switch.ports[p] with desired := desired } ∧
      (s.switch.ports[p].desired ≠ desired → ⟨p, if desired then .enable else .disable⟩ ∈ t.switch.queue))

/-- The policy follows the granted level: BYPASS below MAINTAIN becomes NORMAL (R64). -/
def Sys2Proof.Claims.PolicyFollows (s t : State) : Prop :=
  t.reject = { s.reject with policy :=
    if s.reject.policy = .bypass ∧ grantedLevel t ≠ .maintain then .normal else s.reject.policy }

/-- The events of a change of the grant from level `old` to `new` under reject policy `p`: GRANT_CHANGE with both levels,
the cause and the effective level after it, and, where a BYPASS ends with it, POLICY_CHANGE from BYPASS to NORMAL with
cause GRANT (R64, R147). -/
def Sys2Proof.Claims.grantEvents (cause : Nat) (old new : Level) (p : Policy) (s t : State) : List Event :=
  ⟨.grantChange, 0, s.time.now, s.time.state, BitVec.ofNat 16 (levelCode old * 256 + levelCode new),
      BitVec.ofNat 16 (cause * 256 + levelCode (effectiveLevel t))⟩ ::
    if p = .bypass ∧ new ≠ .maintain then [⟨.policyChange, 0, s.time.now, s.time.state, 0x0200, 2⟩] else []

/-- GRANT_OPEN: with the key above OPERATE the grant is opened or restarted at the lower of the level asked and the key
level, its times and lamp set, the change reported, after it the end of a BYPASS, the SERVICE port and the policy
following; with the key at OPERATE the request is ignored (R64, R142, R143, R147, R148). -/
def Obligations.GrantOpenSetsTheGrant : Prop :=
  ∀ (s : State) (c : Settings) (v : Level) (m : Byte), Serving s c → v ≠ .none →
    (keyLevel s ≠ .none →
      let until' := s.time.now + BitVec.ofNat 64 (minutesTaken m * 60000000000)
      let level := minLevel v (keyLevel s)
      ∃ t, exec (.grantOpen v m) s = .next t ∧
        t.grant = { s.grant with
          isOpen := true, requested := v, granted := level, duration := BitVec.ofNat 8 (minutesTaken m)
          openTime := s.time.now, openQuality := s.time.state, expiry := some until'
          blinkStart := some (until' - BitVec.ofNat 64 300000000000)
          opened := if s.grant.isOpen then s.grant.opened else satInc s.grant.opened
          lamp := if minutesTaken m ≤ 5 then .blinking else .on } ∧
        levelCode level ≤ levelCode (keyLevel s) ∧ levelCode level ≤ levelCode v ∧
        Raises [flagGrantChange] s t ∧ PolicyFollows s t ∧ ServicePortsFollow true s t ∧
        LogsAll (grantEvents 1 (grantedLevel s) level s.reject.policy s t) s t ∧
        Answers c 16 (BitVec.ofNat 16 (4096 + levelCode level * 256 + minutesTaken m))
          [.grant, .lines, .reject, .switch] s t) ∧
    (keyLevel s = .none →
      ∃ t st, exec (.grantOpen v m) s = .next t ∧
        t.grant = { s.grant with refused := satInc s.grant.refused } ∧ Raises [] s t ∧
        Logs .requestIgnored 32 8 (BitVec.ofNat 16 (levelCode v * 256) ||| m.setWidth 16) s t ∧
        st.toNat / 4096 = 0 ∧ Answers c 16 st [.grant] s t)

/-- An open grant is closed: levels NONE, expiry and blink start absent, lamp OFF, opening time and duration kept; the
policy leaves BYPASS and the SERVICE port is desired DISABLED; GRANT_CHANGE is raised (R146, R147, R148). -/
def Sys2Proof.Claims.ClosesGrant (g : GrantUnit) (s t : State) : Prop :=
  t.grant = { g with isOpen := false, requested := .none, granted := .none, expiry := none, blinkStart := none,
                     lamp := .off } ∧
    effectiveLevel t = .none ∧ PolicyFollows s t ∧ ServicePortsFollow false s t ∧ Raises [flagGrantChange] s t

/-- GRANT_CLOSE and GRANT_EXPIRY: an open grant closes with its cause, an expiry counted, and GRANT_CHANGE is appended,
after it POLICY_CHANGE with cause GRANT where a BYPASS ends; a close with no grant open changes nothing (R64, R142, R146,
R147). -/
def Obligations.GrantsClose : Prop :=
  ∀ s : State,
    (∀ (c : Settings) (m : Byte), Serving s c →
      (s.grant.isOpen = true →
        ∃ t, exec (.grantClose m) s = .next t ∧ ClosesGrant s.grant s t ∧
          LogsAll (grantEvents 1 s.grant.granted .none s.reject.policy s t) s t ∧
          Answers c 16 0x1000 [.grant, .lines, .reject, .switch] s t) ∧
      (s.grant.isOpen = false →
        ∃ t, exec (.grantClose m) s = .next t ∧ LogsNothing s t ∧ Raises [] s t ∧ Answers c 16 0x1000 [] s t)) ∧
    (s.grant.isOpen = true → due s.grant.expiry s.time.now = true →
      ∃ t, exec .grantExpiry s = .next t ∧ ClosesGrant { s.grant with expiries := satInc s.grant.expiries } s t ∧
        LogsAll (grantEvents 3 s.grant.granted .none s.reject.policy s t) s t ∧
        NoticeKept s t ∧ OnlyAsks [.grant, .lines, .reject, .switch, .notice] s t)

/-- The key level of a pair (R140). -/
def Sys2Proof.Claims.pairLevel (a b : Bool) : Level :=
  if a && !b then .adjust else if b && !a then .maintain else .none

/-- A settled pair moves the grant: it is open, and the key level of the pair is NONE or below the granted level (R145). -/
def Sys2Proof.Claims.keyMoves (a b : Bool) (g : GrantUnit) : Bool :=
  g.isOpen && (pairLevel a b == .none || decide (levelCode (pairLevel a b) < levelCode g.granted))

/-- The grant record once a pair has settled: an invalid pair counted, an open grant closed at OPERATE or lowered to a lower
key level, either counted (R140, R145, R146, R148). -/
def Sys2Proof.Claims.keyedGrant (a b : Bool) (g : GrantUnit) : GrantUnit :=
  let v := pairLevel a b
  let h := { g with
    settledA := a, settledB := b, keyInvalids := if a && b then satInc g.keyInvalids else g.keyInvalids
    keyActions := if keyMoves a b g then satInc g.keyActions else g.keyActions }
  if keyMoves a b g then
    (if v = .none then
      { h with isOpen := false, requested := .none, granted := .none, expiry := none, blinkStart := none, lamp := .off }
    else { h with granted := v })
  else h

/-- The events of a settled pair, with a cause, under reject policy `p`: KEY_INVALID with the key level before it for an
invalid pair, then those of the change of the grant (R140, R145, R147). -/
def Sys2Proof.Claims.keyEvents (a b : Bool) (cause : Nat) (p : Policy) (s t : State) : List Event :=
  (if a && b then
    [⟨.keyInvalid, 0, s.time.now, s.time.state,
      BitVec.ofNat 16 (levelCode (pairLevel s.grant.settledA s.grant.settledB)), 0⟩] else []) ++
    if keyMoves a b s.grant then grantEvents cause s.grant.granted (pairLevel a b) p s t else []

/-- KEY_LINE_CHANGE and KEY_DEBOUNCE_END: a change of level on a key line makes the levels shown the candidate pair and
sets the debounce end 20 ms on; at that end a candidate that differs settles: an invalid pair is counted and reported, an
open grant closes at OPERATE and is lowered to a lower key level, GRANT_CHANGE with cause KEY reporting either, after it
the end of a BYPASS, and a higher one raises nothing (R64, R140, R145, R147). -/
def Obligations.KeyPositionsSettle : Prop :=
  ∀ s : State,
    (∀ (keyB high : Bool) (l : Fin 16) (k : LineCfg),
      sampledLine s (if keyB then .keyB else .keyA) = some l → s.lines.line[l].record = some k →
      s.lines.line[l].pin ≠ high → s.lines.line[l].accepted ≠ xor high k.activeLow →
      ∃ t, exec (.keyLineChange keyB high) s = .next t ∧
        t.grant = { s.grant with
          candA := if keyB then levelWith s .keyA else xor high k.activeLow
          candB := if keyB then xor high k.activeLow else levelWith s .keyB
          debounceEnd := some (s.time.now + BitVec.ofNat 64 20000000) } ∧
        t.lines.line[l].accepted = xor high k.activeLow ∧ OnlyAsks [.grant, .lines] s t) ∧
    (due s.grant.debounceEnd s.time.now = true →
      let a := s.grant.candA
      let b := s.grant.candB
      let v := pairLevel a b
      let invalids := if a && b then satInc s.grant.keyInvalids else s.grant.keyInvalids
      let settled := { s.grant with debounceEnd := none, settledA := a, settledB := b, keyInvalids := invalids }
      (a = s.grant.settledA → b = s.grant.settledB →
        ∃ t, exec .keyDebounceEnd s = .next t ∧ t.grant = { s.grant with debounceEnd := none } ∧ OnlyAsks [.grant] s t) ∧
      (a ≠ s.grant.settledA ∨ b ≠ s.grant.settledB →
        ∃ t, exec .keyDebounceEnd s = .next t ∧ keyLevel t = v ∧
          t.grant = keyedGrant a b { s.grant with debounceEnd := none } ∧
          LogsAll (keyEvents a b 2 s.reject.policy s t) s t ∧
          Raises (if keyMoves a b s.grant then [flagGrantChange] else []) s t ∧
          (s.grant.isOpen = false → t.grant = settled ∧ OnlyAsks [.grant, .notice] s t) ∧
          (s.grant.isOpen = true → v = .none →
            ClosesGrant { settled with keyActions := satInc s.grant.keyActions } s t) ∧
          (s.grant.isOpen = true → v ≠ .none → levelCode v < levelCode s.grant.granted →
            t.grant = { settled with granted := v, keyActions := satInc s.grant.keyActions } ∧ PolicyFollows s t ∧
              OnlyAsks [.grant, .reject, .notice] s t) ∧
          (s.grant.isOpen = true → levelCode s.grant.granted ≤ levelCode v → v ≠ .none →
            t.grant = settled ∧ OnlyAsks [.grant, .notice] s t)))

/-- BLINKING: asked for, the lamp line is active at once and its next toggle 500 ms on; at each toggle time the level
turns and the next is 500 ms on; a change to ON or OFF drives that level at once and clears the toggle time. BLINK_START
asks for BLINKING at the blink start of an open grant, which begins the phase (R170, R148); asked for while BLINKING, the
phase and the toggle time stand by the model's choice (log 62). -/
def Obligations.TheLampBlinks : Prop :=
  ∀ (s : State) (l : Fin 16),
    (∀ x : Lamp, s.grant.lamp ≠ x →
      let t := setLamp x s
      t.grant = { s.grant with lamp := x } ∧ Only [.grant, .lines] s t ∧
        (x = .blinking → drivenActive t l .grantLamp = true ∧
          t.lines.toggleAt = some (s.time.now + BitVec.ofNat 64 500000000)) ∧
        (x = .on → drivenActive t l .grantLamp = true ∧ t.lines.toggleAt = none) ∧
        (x = .off → drivenActive t l .grantLamp = false ∧ t.lines.toggleAt = none)) ∧
    (s.grant.lamp = .blinking → ∀ d, s.lines.toggleAt = some d → reached d s.time.now = true →
      ∃ t, exec .lampToggle s = .next t ∧ drivenActive t l .grantLamp = (!drivenActive s l .grantLamp) ∧
        t.lines = { s.lines with lampLevel := t.lines.lampLevel, toggleAt := some (d + BitVec.ofNat 64 500000000) } ∧
        Only [.lines] s t) ∧
    (s.grant.isOpen = true → due s.grant.blinkStart s.time.now = true →
      ∃ t, exec .blinkStart s = .next t ∧ t.grant = { s.grant with lamp := .blinking } ∧
        (s.grant.lamp ≠ .blinking → drivenActive t l .grantLamp = true ∧ t.lines = { s.lines with
          lampLevel := true, toggleAt := some (s.time.now + BitVec.ofNat 64 500000000) }) ∧
        (s.grant.lamp = .blinking → t.lines = s.lines) ∧ OnlyAsks [.grant, .lines] s t)

/-! ### The switch (09) -/

/-- The admin state desired of a port (R153). -/
def Sys2Proof.Claims.wants (grantOpen : Bool) (p : Port) : Bool :=
  match p.role with
  | .spare => false
  | .service => grantOpen
  | _ => !p.quarantined && !p.hostDisabled

/-- A command for a port joins the queue, or replaces the action of the one that waits there in place (R154). -/
def Sys2Proof.Claims.queued (q : List Cmd) (p : Fin 16) (enable : Bool) : List Cmd :=
  let k : Cmd := ⟨p, if enable then .enable else .disable⟩
  if q.any fun x => x.port == p then q.map fun x => if x.port = p then k else x else q ++ [k]

/-- A port is usable: link UP, desired state ENABLED, known admin state ENABLED (R122). -/
def Sys2Proof.Claims.usable (x : Port) : Bool := x.link == .up && x.desired && x.known == .enabled

/-- The context of a robot when the record of its port changes to `x`: STARTING from OFFLINE at a usable port, OFFLINE at one
that is not, whatever it was, and else as it stands (R122). -/
def Sys2Proof.Claims.contextBy (k : Context) (x : Port) : Context :=
  if usable x then (if k = .offline then .starting else k) else .offline

/-- The contexts that a robot goes through when the record of its port changes to each of these in turn, from `k` on. -/
def Sys2Proof.Claims.contextsBy (k : Context) : List Port → List Context
  | [] => [k]
  | x :: xs => k :: contextsBy (contextBy k x) xs

/-- A robot that goes through these contexts enters one. -/
def Sys2Proof.Claims.enters (k : Context) (ks : List Context) : Bool :=
  (ks.zip ks.tail).any fun x => x.1 != x.2 && x.2 == k

/-- The configured robot that follows a port: that of its role ROBOT r (R122). -/
def Sys2Proof.Claims.followerOf (c : Settings) (x : Port) : Option (Fin 8) :=
  match x.role with
  | .robot r => (c.robots[r]).map fun _ => r
  | _ => none

/-- The field port after robot `r` goes OFFLINE: its frames leave the send list, the one in transmission is ended, its
answer in reception is abandoned and none of its deposits goes on; frames and answers of others stand (R122, R127). -/
def Sys2Proof.Claims.FieldWithout (r : Fin 8) (s t : State) : Prop :=
  let mine := fun x : Sending => x.frame.robot == r
  t.field = { s.field with
    sendList := s.field.sendList.filter fun f => f.robot != r
    deposits := s.field.deposits.filter fun q => q != r
    sending := s.field.sending.filter fun x => !mine x
    receiving := s.field.receiving.map fun x =>
      match x.stage with
      | .answer p q _ => if q = r then { x with stage := .answer p q .abandoned } else x
      | _ => x
    lastSent := t.field.lastSent, endings := t.field.endings } ∧
  (∀ x, s.field.sending = some x → mine x = true → x.frame.head ≠ [] → EndedFrame x t.field.lastSent) ∧
  (s.field.sending.any mine = false → t.field.lastSent = s.field.lastSent ∧ t.field.endings = s.field.endings)

/-- What going through these contexts makes of robot `r`. Each change counts. On entry to STARTING the missed run and the
stale count are 0. On entry to OFFLINE its answer is given up, the FILLING bank FREE, the answer state NONE, no SAFE entry
pending, and its frames and its answer in reception end; nothing of that is counted. Where RUNNING is left its announcement
queue is emptied, the records it names FILL_UNKNOWN. Every other robot stands (R37, R122, R123). -/
def Sys2Proof.Claims.RobotMoves (r : Fin 8) (ks : List Context) (s t : State) : Prop :=
  let b := s.robots[r]
  let starts := enters .starting ks
  let stops := enters .offline ks
  let empties := stops && b.context == .running
  t.robots = s.robots.set r { b with
    context := ks.getLastD b.context
    ctxChanges := BitVec.ofNat 16 (min 65535 (b.ctxChanges.toNat + (contextEvents s r ks).length))
    missedRun := if starts then 0 else b.missedRun
    stale := if starts then 0 else b.stale
    inp := match b.answer with | some a => if stops then b.inp.set a.bank .free else b.inp | none => b.inp
    answer := if stops then none else b.answer
    answerState := if stops then .none else b.answerState
    safePending := b.safePending && !stops } ∧
  (stops = false → t.field = s.field) ∧ (stops = true → FieldWithout r s t) ∧
  t.track = { s.track with
    queues := if empties then s.track.queues.set r [] else s.track.queues
    ring := t.track.ring, fillUnknowns := t.track.fillUnknowns } ∧
  t.reject = { s.reject with exitQueue := t.reject.exitQueue } ∧
  (empties = false → t.track = s.track ∧ t.reject = s.reject) ∧ (empties = true → Emptied s.track.queues[r] s t)

/-- The record of port `p` changes to each of these in turn, and the robot that follows the port goes with each change; at a
port of no robot, or of one that is not configured, no robot does (R122). -/
def Sys2Proof.Claims.PortFollowed (s t : State) (c : Settings) (p : Fin 16) (xs : List Port) : Prop :=
  (followerOf c s.switch.ports[p] = none →
    t.robots = s.robots ∧ t.field = s.field ∧ t.track = s.track ∧ t.reject = s.reject) ∧
  ∀ r, followerOf c s.switch.ports[p] = some r → RobotMoves r (contextsBy s.robots[r].context xs) s t

/-- The ROBOT_STATE events that these changes of the record of port `p` bring (R123). -/
def Sys2Proof.Claims.robotEvents (s : State) (c : Settings) (p : Fin 16) (xs : List Port) : List Event :=
  (followerOf c s.switch.ports[p]).toList.flatMap fun r => contextEvents s r (contextsBy s.robots[r].context xs)

/-- A PORT request on port `p` is taken: the record becomes `x` with its desired state formed again; a change of it has
its command queued, and the robot that follows the port goes with it, with its ROBOT_STATE event; nothing else of the switch
changes, and the word shows TAKEN, the desired state and the port. A port that the request makes desired ENABLED leaves an
OFFLINE robot as it is until the port is known UP and ENABLED (R122, R123, R153, R160). -/
def Sys2Proof.Claims.PortTaken (i : Instr) (c : Settings) (p : Fin 16) (x : Port) (s : State) : Prop :=
  let d := wants s.grant.isOpen x
  let changed := s.switch.ports[p].desired != d
  let records := if changed then [{ x with desired := d }] else []
  ∃ t, exec i s = .next t ∧
    t.switch = { s.switch with
      ports := s.switch.ports.set p { x with desired := d }
      queue := if changed then queued s.switch.queue p d else s.switch.queue } ∧
    PortFollowed s t c p records ∧ LogsAll (robotEvents s c p records) s t ∧ Raises [] s t ∧
    (∀ r, followerOf c s.switch.ports[p] = some r →
      (d = false → s.switch.ports[p].desired = true → t.robots[r].context = .offline) ∧
      (s.robots[r].context = .offline → x.link ≠ .up ∨ x.known ≠ .enabled → t.robots[r] = s.robots[r])) ∧
    Answers c 17 (BitVec.ofNat 16 (4096 + (if d then 256 else 0) + p.val)) [.switch, .robots, .field, .track, .reject] s t

/-- PORT_DISABLE and PORT_ENABLE set and clear host-disabled at any level; PORT_RELEASE clears the quarantine and the flap
state at effective level ADJUST or above, and is ignored below it. The robot of a ROBOT port goes OFFLINE with a desired
state lost, its frames, its answer and its announcements given up, and comes to STARTING with one that makes the port
usable (R37, R122, R123, R127, R153, R160; what of a frame ended in transmission went out and its check are free, log 11,
its least length is the model's presumption, log 53). -/
def Obligations.PortRequestsSetThePort : Prop :=
  ∀ (s : State) (c : Settings) (p : Fin 16), Serving s c →
    let x := s.switch.ports[p]
    PortTaken (.portDisable p) c p { x with hostDisabled := true } s ∧
    PortTaken (.portEnable p) c p { x with hostDisabled := false } s ∧
    (atLeast (effectiveLevel s) .adjust = true →
      PortTaken (.portRelease p) c p { x with quarantined := false, flaps := 0, flapEnd := none } s) ∧
    (atLeast (effectiveLevel s) .adjust = false →
      ∃ t, exec (.portRelease p) s = .next t ∧ Raises [] s t ∧
        Logs .requestIgnored 33 4 (BitVec.ofNat 16 (768 + p.val)) s t ∧
        Answers c 17 (BitVec.ofNat 16 ((if x.desired then 256 else 0) + p.val)) [] s t)

/-- COMMAND_SEND, COMMAND_SEND_COMPLETE, REPLY_TIMEOUT and FLAP_WINDOW_END: the head command becomes outstanding with the
next sequence and goes out as five bytes that sum to 0; its reply is due 50 ms after its last byte; timed out, its port
is UNKNOWN, the failure is counted and reported, the robot of a ROBOT port goes OFFLINE, and a PORT_SET has a PORT_ASK of its
port queued where the port has no command queued; a flap window ends with the count 0 (R37, R122, R123, R154, R156, R159;
that the commands sent count grows when the sending begins is the model's choice, log 66, and so is the order of the
timeout's events, log 42; the port that changed last, log 24; a frame of the robot ended in transmission, log 11 and
log 53). -/
def Obligations.SwitchCommandsRun : Prop :=
  ∀ s : State,
    (∀ (k : Cmd) (ks : List Cmd), s.switch.outstanding = none → s.switch.queue = k :: ks → isLive s = true →
      ∃ t, exec .commandSend s = .next t ∧
        t.switch = { s.switch with queue := ks, outstanding := some ⟨k, s.switch.nextSeq, none⟩
                                   nextSeq := s.switch.nextSeq + 1, sent := satInc s.switch.sent
                                   lastMessage := t.switch.lastMessage } ∧
        t.switch.lastMessage.length = 5 ∧ t.switch.lastMessage.foldl (· + ·) 0 = 0 ∧
        t.switch.lastMessage.take 4 = [if k.action = .ask then 2 else 1, s.switch.nextSeq, BitVec.ofNat 8 k.port.val,
          match k.action with | .ask => 0 | .enable => 1 | .disable => 2] ∧
        OnlyAsks [.switch] s t) ∧
    (∀ o : Outstanding, s.switch.outstanding = some o → o.deadline = none →
      ∃ t, exec .commandSendComplete s = .next t ∧ OnlyAsks [.switch] s t ∧
        t.switch = { s.switch with
          outstanding := some { o with deadline := some (s.time.now + BitVec.ofNat 64 50000000) } }) ∧
    (∀ (o : Outstanding) (c : Settings), s.switch.outstanding = some o → due o.deadline s.time.now = true →
      s.cfg = some c →
      let p := o.cmd.port
      let y := { s.switch.ports[p] with known := .unknown, changed := s.time.now, changedQuality := s.time.state }
      ∃ t, exec .replyTimeout s = .next t ∧
        t.switch = { s.switch with
          outstanding := none, ports := s.switch.ports.set p y, failures := satInc s.switch.failures, lastPort := p
          queue := if o.cmd.action = .ask ∨ (s.switch.queue.any fun k => k.port == p) = true then s.switch.queue
            else s.switch.queue ++ [⟨p, .ask⟩] } ∧
        PortFollowed s t c p [y] ∧
        LogsAll (eventNow s .portCommandFailed (BitVec.ofNat 16 p.val) 1 (BitVec.ofNat 16 (actionCode o.cmd.action)) ::
          robotEvents s c p [y]) s t ∧
        (∀ r, followerOf c s.switch.ports[p] = some r → t.robots[r].context = .offline) ∧
        Raises [flagPortChange] s t ∧ NoticeKept s t ∧
        OnlyAsks [.switch, .robots, .field, .track, .reject, .notice] s t) ∧
    ∀ p : Fin 16, due s.switch.ports[p].flapEnd s.time.now = true →
      ∃ t, exec (.flapWindowEnd p) s = .next t ∧ OnlyAsks [.switch] s t ∧
        t.switch = { s.switch with
          ports := s.switch.ports.set p { s.switch.ports[p] with flaps := 0, flapEnd := none } }

/-- The link that a PORT_STATE reports. -/
def Sys2Proof.Claims.linkOf (up : Bool) : Link := if up then .up else .down

/-- A reported link UP or DOWN is a loss that counts: the port was UP, is not quarantined, and its desired and known admin
states are ENABLED (R158, R159). -/
def Sys2Proof.Claims.lossCounts (x : Port) (up : Bool) : Bool :=
  x.link == .up && !up && !x.quarantined && x.desired && x.known == .enabled

/-- The port's flap window is over for a loss in state `s`: there is none, or its end was reached (R159). An end reached by
the very last tick falls together with the loss, which is then taken first and counts in the old window (log 46). -/
def Sys2Proof.Claims.windowPast (s : State) (x : Port) : Bool :=
  x.flapEnd.all fun e => reached e (s.time.now - s.time.advance)

/-- The flap count that a counted loss gives (R159). -/
def Sys2Proof.Claims.flapsAfter (s : State) (x : Port) : Nat := if windowPast s x then 1 else min (x.flaps + 1) 15

/-- A reported link quarantines the port: it is a counted loss that brings the count to a non-zero flap limit (R159). -/
def Sys2Proof.Claims.lossQuarantines (s : State) (c : Settings) (x : Port) (up : Bool) : Bool :=
  lossCounts x up && decide (c.ports.flapLimit ≠ 0) && decide (c.ports.flapLimit ≤ flapsAfter s x)

/-- The events of a reported link: a change gives PORT_LINK with the old link and the new, a quarantine PORT_QUARANTINED
with the count and the role (R158, R159). -/
def Sys2Proof.Claims.linkEvents (s : State) (c : Settings) (p : Fin 16) (up : Bool) : List Event :=
  let x := s.switch.ports[p]
  let event := fun (k : EventKind) (a b : Nat) =>
    Event.mk k (BitVec.ofNat 16 p.val) s.time.now s.time.state (BitVec.ofNat 16 a) (BitVec.ofNat 16 b)
  if x.link = linkOf up then []
  else event .portLink (linkCode x.link) (linkCode (linkOf up)) ::
    (if lossQuarantines s c x up then [event .portQuarantined c.ports.flapLimit (roleCode x.role)] else [])

/-- A link reported UP or DOWN is taken at a port: the record holds it; a change stamps the port, raises PORT_CHANGE and is
reported; a counted loss counts in its window or opens one; at the limit the port is quarantined with the count held and its
desired state formed again; without a counted loss the flap state and the desired state stand
(R153, R158, R159). -/
def Sys2Proof.Claims.LinkTaken (s t : State) (c : Settings) (p : Fin 16) (up : Bool) : Prop :=
  let x := s.switch.ports[p]
  let y := t.switch.ports[p]
  let quarantines := lossQuarantines s c x up
  y.link = linkOf up ∧ LogsFirst (linkEvents s c p up) s t ∧
    (x.link ≠ linkOf up →
      y.changed = s.time.now ∧ y.changedQuality = s.time.state ∧ t.notice.flags.getLsbD flagPortChange = true) ∧
    (lossCounts x up = false → y.flaps = x.flaps ∧ y.flapEnd = x.flapEnd) ∧
    (lossCounts x up = true → quarantines = false → y.flaps = flapsAfter s x ∧
      y.flapEnd = if windowPast s x then some (s.time.now + BitVec.ofNat 64 (c.ports.flapS * 1000000000)) else x.flapEnd) ∧
    (quarantines = false → y.quarantined = x.quarantined ∧ y.desired = x.desired) ∧
    (quarantines = true → y.quarantined = true ∧ y.flaps = c.ports.flapLimit ∧ y.flapEnd = none ∧
      y.desired = wants s.grant.isOpen { x with quarantined := true }) ∧
    y = { y with role := x.role, hostDisabled := x.hostDisabled, admitted := x.admitted, misplaced := x.misplaced,
                 failed := x.failed }

/-- The queue after a reported link: a port whose desired state changed, by its quarantine, has its command there
(R153, R154, R159). -/
def Sys2Proof.Claims.linkQueue (s t : State) (p : Fin 16) : List Cmd :=
  let y := t.switch.ports[p]
  if y.desired = s.switch.ports[p].desired then s.switch.queue else queued s.switch.queue p y.desired

/-- The records that the robot of a port follows when a report changes its record from `x` to `y`: one by the link and one by
the known admin state, each where it changes, the link first (R122, R155, R157, R158). -/
def Sys2Proof.Claims.reportRecords (x y : Port) : List Port :=
  (if x.link = y.link then [] else [{ y with known := x.known }]) ++ if x.known = y.known then [] else [y]

/-- A report of port `p` is taken, its known admin state `k` after it: the link, then the admin state, each change stamped and
raising PORT_CHANGE; the robot that follows the port goes with each change; no other port record and no other block changes
(R122, R155, R157, R158; the port that changed last, log 24). -/
def Sys2Proof.Claims.PortReported (s t : State) (c : Settings) (p : Fin 16) (up : Bool) (k : Known) : Prop :=
  let x := s.switch.ports[p]
  let y := t.switch.ports[p]
  let changes := x.link ≠ y.link ∨ x.known ≠ y.known
  LinkTaken s t c p up ∧ y.known = k ∧
    (changes → y.changed = s.time.now ∧ y.changedQuality = s.time.state) ∧
    (¬ changes → y.changed = x.changed ∧ y.changedQuality = x.changedQuality) ∧
    t.switch = { s.switch with
      ports := s.switch.ports.set p y, queue := t.switch.queue, outstanding := t.switch.outstanding
      strays := t.switch.strays, failures := t.switch.failures
      lastPort := if changes then p else s.switch.lastPort } ∧
    PortFollowed s t c p (reportRecords x y) ∧ Raises (if changes then [flagPortChange] else []) s t ∧ NoticeKept s t ∧
    OnlyAsks [.switch, .robots, .field, .track, .reject, .notice] s t

/-- A report that settles nothing is taken, as a NOTICE or a stray REPLY: link, then admin state; one contrary to the
desired state as found is an override, counted, its correction queued (R157; as found, log 14). Its events are those of the
link, those of the robot that follows the port, and PORT_OVERRIDDEN (R123; their order, log 42). -/
def Sys2Proof.Claims.ReportTaken (s t : State) (c : Settings) (p : Fin 16) (up enabled : Bool) : Prop :=
  let x := s.switch.ports[p]
  let y := t.switch.ports[p]
  PortReported s t c p up (if enabled then .enabled else .disabled) ∧
    t.switch.outstanding = s.switch.outstanding ∧
    (enabled = x.desired → y.overrides = x.overrides ∧ t.switch.queue = linkQueue s t p) ∧
    (enabled ≠ x.desired → y.overrides = satInc8 x.overrides ∧
      t.switch.queue = queued (linkQueue s t p) p y.desired) ∧
    LogsAll (linkEvents s c p up ++ robotEvents s c p (reportRecords x y) ++
      if enabled = x.desired then [] else
        [eventNow s .portOverridden (BitVec.ofNat 16 p.val) (if enabled then 1 else 0) (if x.desired then 1 else 0)]) s t

/-- PORT_STATE_REPLY, PORT_STATE_NOTICE and PORT_STATE_DISCARD: a REPLY that settles its command ends it and sets the
port's link and known state, UNKNOWN, counted and reported when contrary; an ASK's reply contrary to the desired state has
its correction queued where the port has no command queued. A NOTICE sets the port's link and known state, and one
contrary to the desired state as found (log 14) is an override with its correction queued. A REPLY that settles nothing is
stray: counted, and taken as a NOTICE. A change of link is reported, and a loss of link counts toward the flap limit and
quarantines the port there. The robot of a ROBOT port goes with each change of link and of known state: to STARTING where the
port becomes usable, to OFFLINE where it is not, with its ROBOT_STATE events. A bad message is a line error (R37, R122, R123,
R155, R157, R158, R159; the order of the events, log 42, a window that ends with the loss, log 46, the port that changed
last, log 24, a frame of the robot ended in transmission, log 11 and log 53). -/
def Obligations.PortStatesAreTaken : Prop :=
  ∀ (s : State) (m : PortMsg) (p : Fin 16), isLive s = true →
    (∀ c : Settings, s.cfg = some c → m.valid = true → m.b2.toNat = p.val →
      let up := m.b3.getLsbD 1
      let enabled := m.b3.getLsbD 0
      let x := s.switch.ports[p]
      (∀ o : Outstanding, m.isReply = true → s.switch.outstanding = some o → o.seq = m.b1 → o.cmd.port = p →
        let contrary := o.cmd.action ≠ .ask ∧ o.cmd.action ≠ (if enabled then .enable else .disable)
        let reported : Known := if enabled then .enabled else .disabled
        let failure := eventNow s .portCommandFailed (BitVec.ofNat 16 p.val) 2 (BitVec.ofNat 16 (actionCode o.cmd.action))
        ∃ t, exec (.portStateReply m) s = .next t ∧ t.switch.outstanding = none ∧
          PortReported s t c p up (if contrary then .unknown else reported) ∧
          t.switch.failures = (if contrary then satInc s.switch.failures else s.switch.failures) ∧
          (let y := t.switch.ports[p]
           let q := linkQueue s t p
           t.switch.queue = (if o.cmd.action = .ask ∧ y.desired ≠ enabled ∧ (q.any fun k => k.port == p) = false
             then q ++ [⟨p, if y.desired then .enable else .disable⟩] else q) ∧
           LogsAll (linkEvents s c p up ++ robotEvents s c p (reportRecords x y) ++
             if contrary then [failure] else []) s t) ∧
          t.switch.strays = s.switch.strays ∧ t.switch.ports[p].overrides = x.overrides) ∧
      (m.isReply = true → (∀ o, s.switch.outstanding = some o → o.seq ≠ m.b1 ∨ o.cmd.port ≠ p) →
        ∃ t, exec (.portStateReply m) s = .next t ∧ t.switch.strays = satInc s.switch.strays ∧
          t.switch.failures = s.switch.failures ∧ ReportTaken s t c p up enabled) ∧
      (m.isReply = false →
        ∃ t, exec (.portStateNotice m) s = .next t ∧ t.switch.strays = s.switch.strays ∧
          t.switch.failures = s.switch.failures ∧ ReportTaken s t c p up enabled)) ∧
    (m.valid = false →
      ∃ t, exec (.portStateDiscard m) s = .next t ∧ OnlyAsks [.switch] s t ∧
        t.switch = { s.switch with lineErrors := satInc s.switch.lineErrors })

/-! ### Configuration (12) -/

/-- The part stands in CONFIG_FAULT with a fault code and item, no configuration and an empty loader (R186). -/
def Sys2Proof.Claims.Faulted (x : ImageFault) (s t : State) : Prop :=
  t.bus = { s.bus with device := .configFault, faultCode := BitVec.ofNat 4 x.code, faultItem := BitVec.ofNat 8 x.item } ∧
    t.loader = Loader.reset ∧ OnlyAsks [.bus, .loader] s t

/-- Word `i` of section `k` of an image, and the two-word value there, as numbers; the sections are numbered from 0 in
R183's order, and a word beyond the image reads as 0 (R183; 13.5). -/
def Sys2Proof.Claims.inSec (ws : List Word) (k i : Nat) : Nat := (ws.getD ((ws.getD (3 + 2 * k) 0).toNat + i) 0).toNat
def Sys2Proof.Claims.inSec2 (ws : List Word) (k i : Nat) : Nat := inSec ws k i + 65536 * inSec ws k (i + 1)

/-- Where the entry of number `r` begins in a section with a mask: after the mask and the entries of the configured
numbers below it (13.5). -/
def Sys2Proof.Claims.entryAt (ws : List Word) (k size r : Nat) : Nat :=
  1 + size * ((List.range r).filter fun j => (inSec ws k 0).testBit j).length

/-- The motion lengths of the configured robots below number `r`, together: where robot `r`'s safe image begins in its
section (R183). -/
def Sys2Proof.Claims.safeAt (ws : List Word) (r : Nat) : Nat :=
  (((List.range r).filter fun j => (inSec ws 5 0).testBit j).map fun j => inSec ws 5 (entryAt ws 5 9 j + 1)).sum

/-- The settings that an image gives: each is the word, or the two words, that its section table names (R183; 13.5). -/
def Sys2Proof.Claims.SettingsRead (ws : List Word) (c : Settings) : Prop :=
  let kinds : List RegionKind :=
    [.outputWindow, .inputWindow, .outputBanks, .inputBanks, .safeImages, .limits, .outcomeRing, .guarded]
  c.generation = ws.getD 1 0 ∧ c.page = inSec2 ws 1 0 ∧ c.regions.length = inSec ws 0 0 ∧
  (∀ (i : Nat) (g : Region), c.regions[i]? = some g →
    let w := inSec ws 0 (3 + 3 * i)
    g.base = 16 * inSec ws 0 (1 + 3 * i) ∧ g.len = 16 * inSec ws 0 (2 + 3 * i) ∧ g.robot.val = w / 256 % 8 ∧
      g.maintain = w.testBit 4 ∧ ∀ x, kinds[w % 16]? = some x → g.kind = x) ∧
  c.time = ⟨BitVec.ofNat 16 (inSec ws 2 0), inSec2 ws 2 1, inSec2 ws 2 3, inSec2 ws 2 5, inSec ws 2 7, inSec ws 2 8,
    inSec ws 2 9, inSec ws 2 10, inSec ws 2 11⟩ ∧
  c.track = ⟨inSec ws 3 0, inSec2 ws 3 1, decide (inSec ws 3 3 = 1), inSec ws 3 4, inSec2 ws 3 5, inSec2 ws 3 7,
    inSec ws 3 9, inSec ws 3 10, inSec ws 3 11⟩ ∧
  c.rota.length = inSec ws 4 0 ∧ (∀ (i : Nat) (r : Fin 8), c.rota[i]? = some r → r.val = inSec ws 4 (1 + i) % 8) ∧
  (∀ r : Fin 8,
    let w := fun i => inSec ws 5 (entryAt ws 5 9 r.val + i)
    c.robots[r] = (if (inSec ws 5 0).testBit r.val then
      some ⟨w 0, w 1, w 2, w 3, w 4, w 5, w 6, decide (w 7 = 1), w 8⟩ else none) ∧
    c.safe[r] = (if (inSec ws 5 0).testBit r.val then
      (ws.drop ((ws.getD 23 0).toNat + safeAt ws r.val)).take (w 1) else [])) ∧
  (∀ k : Fin 4,
    let w := fun i => inSec ws 6 (entryAt ws 6 6 k.val + i)
    c.cameras[k] = (if (inSec ws 6 0).testBit k.val then some ⟨w 0, w 1, w 2, decide (w 3 = 1), w 4, w 5⟩ else none)) ∧
  c.eject = ⟨inSec ws 7 0, inSec ws 7 1, inSec ws 7 2, inSec ws 7 3, inSec ws 7 4⟩ ∧
  c.ports.tagMarker = BitVec.ofNat 16 (inSec ws 8 0) ∧ c.ports.hallType = BitVec.ofNat 16 (inSec ws 8 1) ∧
  c.ports.flapS = inSec ws 8 2 ∧ c.ports.flapLimit = inSec ws 8 3 ∧
  (∀ p : Fin 16, inSec ws 8 (4 + p.val) ≤ 14 → roleCode c.ports.roles[p] = inSec ws 8 (4 + p.val)) ∧
  (∀ l : Fin 16,
    let w := fun i => inSec ws 9 (5 * l.val + i)
    (w 0 ≤ 16 → lineFnCode c.lines[l].fn = w 0) ∧ c.lines[l].activeLow = decide (w 1 = 1) ∧
      c.lines[l].openDrain = decide (w 2 = 1) ∧ c.lines[l].debounceUs = w 3 ∧ c.lines[l].pulseUs = w 4) ∧
  c.limits = (ws.drop (ws.getD 25 0).toNat).take 1024

/-- Two spans of words, each a start and a length, share a word. -/
def Sys2Proof.Claims.share (a la b lb : Nat) : Prop := a < b + lb ∧ b < a + la ∧ la ≠ 0 ∧ lb ≠ 0

/-- Check 4, section `k`: it lies partly outside the image, or over the header (log 17), or over another section, or its
length is not that of its contents (R184; the lengths by 13.5). That a section of no words is outside past the image's end,
and overlaps nothing, is the model's choice (log 17). -/
def Sys2Proof.Claims.SectionFails (ws : List Word) (k : Nat) : Prop :=
  let off := fun j => (ws.getD (3 + 2 * j) 0).toNat
  let len := fun j => (ws.getD (4 + 2 * j) 0).toNat
  let right := [1 + 3 * inSec ws 0 0, 2, 12, 12, 1 + inSec ws 4 0, entryAt ws 5 9 8, entryAt ws 6 6 4, 5, 20, 80,
    safeAt ws 8, 1024]
  (ws.getD 0 0).toNat < off k + len k ∨ share (off k) (len k) 0 27 ∨
    (∃ j ∈ List.range k, share (off k) (len k) (off j) (len j)) ∨ len k ≠ right.getD k 0

/-- Check 5, region entry `i`: an entry past the 32nd, a length outside 16 to 65,536, an end past 7FFFFh, a code that is
none of a kind, or a span that overlaps a lower entry's (R184; of two the higher, and the entry of too many, log 17). -/
def Sys2Proof.Claims.RegionFails (ws : List Word) (c : Settings) (i : Nat) : Prop :=
  ∃ g ∈ c.regions[i]?.toList, 32 ≤ i ∨ g.len < 16 ∨ 65536 < g.len ∨ 0x80000 < g.base + g.len ∨
    8 ≤ inSec ws 0 (3 + 3 * i) % 16 ∨ ∃ h ∈ c.regions.take i, share g.base g.len h.base h.len

/-- Check 7: every setting of every chapter lies in its range (R184; the ranges by the settings tables of 01 to 10; which
settings of a line and a ring are judged, log 17). -/
def Sys2Proof.Claims.RangesHold (ws : List Word) (c : Settings) : Prop :=
  let t := c.time
  let k := c.track
  let e := c.eject
  (t.pathDelay ≤ 1000000 ∧ 1000 ≤ t.stepThreshold ∧ t.stepThreshold ≤ 100000000 ∧ 100 ≤ t.lockWindow ∧
    t.lockWindow ≤ 100000 ∧ 1 ≤ t.holdoverS ∧ t.holdoverS ≤ 60 ∧ t.gp ≤ 12 ∧ t.gi ≤ 12 ∧ 500 ≤ t.periodUs ∧
    t.periodUs ≤ 20000 ∧ t.phaseUs < t.periodUs) ∧
  (8 ≤ k.len ∧ k.len ≤ 240 ∧ 4 * 256 ≤ k.pitchLen ∧ k.pitchLen ≤ 65535 * 256 ∧ inSec ws 3 3 ≤ 1 ∧ 10 ≤ k.stopMs ∧
    k.stopMs ≤ 10000 ∧ 1000 ≤ k.periodMinUs ∧ k.periodMinUs ≤ 5000000 ∧ 1000 ≤ k.periodMaxUs ∧
    k.periodMaxUs ≤ 5000000 ∧ k.periodMaxUs < 1000 * k.stopMs ∧ k.shift ≤ 4 ∧ 1 ≤ k.fillWindow ∧ k.fillWindow ≤ 32) ∧
  (1 ≤ inSec ws 4 0 ∧ inSec ws 4 0 ≤ 8 ∧ ∀ i ∈ List.range (inSec ws 4 0), inSec ws 4 (1 + i) < 8) ∧
  (inSec ws 5 0 < 256 ∧ ∀ r : Fin 8, ∀ g ∈ c.robots[r].toList,
    16 ≤ g.nOut ∧ g.nOut ≤ 256 ∧ 16 ≤ g.motion ∧ g.motion ≤ 128 ∧ g.motion ≤ g.nOut ∧ 16 ≤ g.nIn ∧ g.nIn ≤ 256 ∧
      g.applyUs ≤ 20000 ∧ g.sampleUs ≤ 20000 ∧ 1 ≤ g.missedLimit ∧ g.missedLimit ≤ 15 ∧ g.watchdog ≤ 255 ∧
      inSec ws 5 (entryAt ws 5 9 r.val + 7) ≤ 1) ∧
  (inSec ws 6 0 < 16 ∧ ∀ n : Fin 4, ∀ g ∈ c.cameras[n].toList,
    g.exponent ≤ 3 ∧ g.residue < 2 ^ g.exponent ∧ inSec ws 6 (entryAt ws 6 6 n.val + 3) ≤ 1 ∧ g.defectMax ≤ 4 ∧
      10 ≤ g.pulseUs ∧ g.pulseUs ≤ 1000) ∧
  (e.fraction ≤ 255 ∧ e.leadUs ≤ 50000 ∧ 1 ≤ e.pulseMs ∧ e.pulseMs ≤ 100 ∧ 1 ≤ e.confirmMs ∧ e.confirmMs ≤ 200) ∧
  (1 ≤ c.ports.flapS ∧ c.ports.flapS ≤ 60 ∧ c.ports.flapLimit ≤ 15 ∧ ∀ p : Fin 16, inSec ws 8 (4 + p.val) ≤ 14) ∧
  (∀ l : Fin 16, let w := fun i => inSec ws 9 (5 * l.val + i)
    w 0 ≤ 16 ∧ w 1 ≤ 1 ∧ (8 ≤ w 0 → w 2 ≤ 1) ∧ (w 0 < 8 → w 0 ≠ 5 → w 0 ≠ 6 → w 3 ≤ 10000) ∧
      (w 0 = 14 → 10 ≤ w 4 ∧ w 4 ≤ 1000)) ∧
  ∀ g ∈ c.regions, g.kind = .outcomeRing → 16 ≤ g.len / 16 ∧ g.len / 16 ≤ 1024

/-- Check 8: a camera's position, a station, D or E is not at its place (R184). -/
def Sys2Proof.Claims.PlacesFail (c : Settings) : Prop :=
  let d := c.track.decidePos
  (∃ k : Fin 4, ∃ g ∈ c.cameras[k].toList, d ≤ g.pos ∨ g.pos + 16 < d) ∨
    (∃ r : Fin 8, ∃ g ∈ c.robots[r].toList, d < g.station + c.track.fillWindow) ∨ c.eject.pos < d + 1 ∨
    c.track.len < c.eject.pos + 2

/-- Check 9, port `k` below 16, then line `k − 16`: a role other than SPARE, or a function other than NONE, GENERAL_IN and
GENERAL_OUT, that a lower one has too; a ninth GENERAL_OUT; one key contact without the other (R184; of two that clash the
higher, ports before lines, log 17). -/
def Sys2Proof.Claims.UniqueFails (ws : List Word) (k : Nat) : Prop :=
  let role := fun p => inSec ws 8 (4 + p)
  let fn := fun l => inSec ws 9 (5 * l)
  (k < 16 ∧ role k ≠ 14 ∧ ∃ q ∈ List.range k, role q = role k) ∨
    (16 ≤ k ∧ k < 32 ∧
      ((fn (k - 16) ∉ [0, 7, 16] ∧ ∃ j ∈ List.range (k - 16), fn j = fn (k - 16)) ∨
        (fn (k - 16) = 16 ∧ 8 ≤ ((List.range (k - 16)).filter fun j => fn j = 16).length) ∨
        (fn (k - 16) = 5 ∧ ∀ j ∈ List.range 16, fn j ≠ 6) ∨ (fn (k - 16) = 6 ∧ ∀ j ∈ List.range 16, fn j ≠ 5)))

/-- There is exactly one region of a kind, of robot `r` where one is given, and it has a least length. -/
def Sys2Proof.Claims.oneOf (c : Settings) (k : RegionKind) (r : Option (Fin 8)) (least : Nat) : Prop :=
  let gs := c.regions.filter fun g => g.kind == k && r.all fun n => g.robot == n
  gs.length = 1 ∧ ∀ g ∈ gs, least ≤ g.len

/-- Check 10, robot `k` below 8, then camera `k − 8`, then the whole image at 12: what is configured lacks its port, its
regions or its line, or a role or the rota names what is not configured; the shared regions or the lines that every image
needs are missing (R184; robots before cameras before the whole, one region of each kind, log 17). -/
def Sys2Proof.Claims.CompleteFails (ws : List Word) (c : Settings) (k : Nat) : Prop :=
  let port := fun n => ∃ p ∈ List.range 16, inSec ws 8 (4 + p) = n
  let line := fun n => ∃ l ∈ List.range 16, inSec ws 9 (5 * l) = n
  (∃ r : Fin 8, k = r.val ∧
    ((∃ g ∈ c.robots[r].toList, ¬ (port k ∧ oneOf c .outputWindow (some r) g.nOut ∧ oneOf c .inputWindow (some r) g.nIn ∧
        oneOf c .outputBanks (some r) (3 * g.nOut) ∧ oneOf c .inputBanks (some r) (3 * g.nIn))) ∨
      (c.robots[r] = none ∧ (port k ∨ r ∈ c.rota)))) ∨
  (∃ n : Fin 4, k = 8 + n.val ∧
    ((c.cameras[n].isSome = true ∧ ¬ (port k ∧ line k)) ∨ (c.cameras[n] = none ∧ port k))) ∨
  (k = 12 ∧ ¬ (oneOf c .safeImages none 1024 ∧ oneOf c .limits none 1024 ∧ oneOf c .outcomeRing none 256 ∧
    line 1 ∧ line 2 ∧ line 12))

/-- Check `n` fails at its place `k`, the places of one check in the order in which they are judged (R184; in checks 6 and
10 that order is log 17's). -/
def Sys2Proof.Claims.CheckFails (ws : List Word) (c : Settings) (n k : Nat) : Prop :=
  let length := (ws.getD 0 0).toNat
  (n = 2 ∧ k = 0 ∧ (length < 27 ∨ 3072 < length)) ∨
  (n = 3 ∧ k = 0 ∧ (ws.map BitVec.toNat).sum % 65536 ≠ 0) ∨
  (n = 4 ∧ k = 0 ∧ ∃ j ∈ List.range 12, SectionFails ws j) ∨
  (n = 5 ∧ RegionFails ws c k) ∨
  (n = 6 ∧ ((k = 0 ∧ (c.page % 4096 ≠ 0 ∨ 0x80000 < c.page + 4096)) ∨
    (k ≠ 0 ∧ ∃ g ∈ c.regions[k - 1]?.toList, share c.page 4096 g.base g.len))) ∨
  (n = 7 ∧ k = 0 ∧ ¬ RangesHold ws c) ∨
  (n = 8 ∧ k = 0 ∧ PlacesFail c) ∨
  (n = 9 ∧ UniqueFails ws k) ∨
  (n = 10 ∧ CompleteFails ws c k)

/-- The item index of a place of a check: a region entry, a port or a line, a robot or a camera plus 8, else 0 (R184). -/
def Sys2Proof.Claims.itemOf (n k : Nat) : Nat :=
  if n = 6 then k - 1 else if n = 9 then k % 16 else if n = 10 then k % 12 else k

/-- An image of words: its settings are those its sections name; the first check that fails, at its first place, is its
fault code with its item index, and an image that fails none is accepted (R183, R184; 13.5; log 17). -/
def Sys2Proof.Claims.ImageJudged (ws : List Word) : Prop :=
  let c := settingsOf ws
  SettingsRead ws c ∧
    (∀ n k : Nat, CheckFails ws c n k → (∀ m j : Nat, m < n ∨ (m = n ∧ j < k) → ¬ CheckFails ws c m j) →
      checkImage ws = some ⟨n, itemOf n k⟩) ∧
    ((∀ n k : Nat, ¬ CheckFails ws c n k) → checkImage ws = none)

/-- The roles of a configuration take effect: each record, given but for its role and its desired state, has the new role and
its desired state formed again. In port order each port of a list asked for has its PORT_SET queued. Where the grant closes
after that a port that follows it is desired anew, with its command (R153, R165, R166). -/
def Sys2Proof.Claims.RolesTaken (c : Settings) (records : Fin 16 → Port) (asked : Fin 16 → Bool → Bool) (s t : State) :
    Prop :=
  let y := fun p : Fin 16 => { records p with role := c.ports.roles[p] }
  let first := fun p => wants s.grant.isOpen (y p)
  let last := fun p => wants t.grant.isOpen (y p)
  (∀ p : Fin 16, t.switch.ports[p] = { y p with desired := last p }) ∧
    t.switch.queue = (allPorts.filter fun p => last p != first p).foldl (fun q p => queued q p (last p))
      ((allPorts.filter fun p => asked p (first p)).foldl (fun q p => queued q p (first p)) s.switch.queue)

/-- A line meets its record of a configuration that takes effect: unchanged the line keeps everything; with a TRIGGER,
EJECTOR or CYCLE_PULSE pulse in progress under the old record the new one waits; else the line is SAMPLED or DRIVEN afresh,
its level from the pin and no debounce in progress (R167, R174; the records compared whole, log 65). -/
def Sys2Proof.Claims.LineMeets (s : State) (k : LineCfg) (x y : Line) : Prop :=
  let pulses := ∃ old, x.record = some old ∧
    ((∃ n : Fin 4, old.fn = .trigger n ∧ s.cameras[n].pulseEnd.isSome = true) ∨
      (old.fn = .ejector ∧ s.reject.pulseEnd.isSome = true) ∨
      (old.fn = .cyclePulse ∧ s.lines.cyclePulseEnd.isSome = true))
  let level := xor x.pin k.activeLow
  (x.record = some k → y = { x with deferred := none }) ∧
    (x.record ≠ some k → pulses → y = { x with deferred := some k }) ∧
    (x.record ≠ some k → ¬ pulses →
      y = { x with record := some k, deferred := none, accepted := level, candidate := level, debounceEnd := none })

/-- Every line meets its record, and the last encoder pair is that of the levels then shown; the cycle pulse stands, and the
lamp where the grant does not close (R23, R167, R168, R174). -/
def Sys2Proof.Claims.LinesTaken (c : Settings) (s t : State) : Prop :=
  (∀ l : Fin 16, LineMeets s c.lines[l] s.lines.line[l] t.lines.line[l]) ∧
    t.lines.cyclePulseEnd = s.lines.cyclePulseEnd ∧
    (t.grant.isOpen = s.grant.isOpen → t.lines = { s.lines with line := t.lines.line, held := t.lines.held }) ∧
    t.track.pairA = levelWith t .encoderA ∧ t.track.pairB = levelWith t .encoderB

/-- Both key pairs are those of the levels that the key lines show, with no debounce in progress, and the key position acts
on the grant (R141, R145, R152). -/
def Sys2Proof.Claims.KeysTaken (s t : State) : Prop :=
  let a := levelWith t .keyA
  let b := levelWith t .keyB
  t.grant = keyedGrant a b { s.grant with candA := a, candB := b, debounceEnd := none }

/-- The events of an accepted RELOAD: LINE_RESET with the records discarded and cause 2; POLICY_CHANGE with cause 3 where the
policy was not NORMAL; those of the key position with cause RELOAD; and ROBOT_STATE for each robot whose context changes (R44,
R84, R123, R139, R140, R152; their order, log 21). -/
def Sys2Proof.Claims.reloadEvents (s t : State) : List Event :=
  let discarded := (s.track.ring.filter fun x => !x.empty).length + s.reject.exitQueue.length
  [eventNow s .lineReset 0 (BitVec.ofNat 16 (min discarded 65535)) 2] ++
    (if s.reject.policy = .normal then []
     else [eventNow s .policyChange 0 (BitVec.ofNat 16 (policyCode s.reject.policy * 256)) 3]) ++
    keyEvents (levelWith t .keyA) (levelWith t .keyB) 4 .normal s t ++
    allRobots.flatMap fun r => contextEvents s r [s.robots[r].context, t.robots[r].context]

/-- The blocks under a configuration `c` that replaces `o`. Time: the clock and the number stand. Tracking: the ring refilled
from the next number with EMPTY records of now, all else as after a full reset. Cameras: lists and counts cleared, the
trigger count kept where configured under both, pulse and ready time running on. Rejection: policy NORMAL, the pulse kept.
Robots: the full-reset state, the context from the port under the new role. Keys and grant; switch: counts 0, new roles, a
PORT_SET where the new desired state differs from the known one, and by log 40 where it is a new one; lines: held levels
kept where the old image configured them (log 60), each line meeting its record. With no other agent served before the held
read the events are those of `reloadEvents`, in a ring with both indices 0 where the control page has moved (R22, R44, R60,
R84, R95, R120, R121, R138, R139, R152, R166, R168, R174, R182). -/
def Sys2Proof.Claims.TakesEffect (o c : Settings) (s t : State) : Prop :=
  let newPage := { s with writer := Writer.reset, notice := { s.notice with writeIx := 0, readIx := 0, shownIx := 0 } }
  let outputs := (allLines.filter fun l => o.lines[l].fn == .generalOut).length
  let served := fun r : Fin 8 => allPorts.any fun p =>
    t.switch.ports[p].role == .robot r && usable t.switch.ports[p]
  t.bus.device = .reloading ∧ t.cfg = some c ∧ t.loader.accepted = some c ∧ Job.copies ∈ t.writer.queue ∧
    t.settingsMem = s.settingsMem ∧ t.bus.refusals = s.bus.reloadRefusals ∧ t.bus.record = s.bus.reloadRecord ∧
    t.time.now = s.time.now ∧ t.time.corr = s.time.corr ∧ t.time.state = s.time.state ∧
    t.time.cycleNumber = s.time.cycleNumber ∧
    t.track = { TrackUnit.reset with
      pairA := t.track.pairA, pairB := t.track.pairB, ring := t.track.ring, edgeNoted := t.track.edgeNoted
      nextSeq := s.track.nextSeq + BitVec.ofNat 32 c.track.len } ∧
    t.track.ring.length = c.track.len ∧
    (∀ (p : Nat) (x : Record), recordAt p t = some x →
      x.seq = s.track.nextSeq + BitVec.ofNat 32 (c.track.len - 1 - p) ∧ x.empty = true ∧ x.entry = s.time.now) ∧
    (∀ k : Fin 4, t.cameras[k] = { Camera.reset with
      triggers := if o.cameras[k].isSome && c.cameras[k].isSome then s.cameras[k].triggers else 0
      pulseEnd := s.cameras[k].pulseEnd, readyAt := s.cameras[k].readyAt }) ∧
    t.reject = { RejectUnit.reset with policy := .normal, pulseEnd := s.reject.pulseEnd } ∧
    t.engine = Engine.reset ∧ t.field.sending = none ∧ t.field.sendList = [] ∧ t.field.deposits = [] ∧
    (∀ r : Fin 8, t.robots[r] = { Robot.reset with
      context := if c.robots[r].isSome && served r then .starting else .offline }) ∧
    KeysTaken s t ∧ LinesTaken c s t ∧
    (∀ i : Fin 8, t.lines.held.getLsbD i = (s.lines.held.getLsbD i && decide (i.val < outputs))) ∧
    RolesTaken c (fun p => { s.switch.ports[p] with admitted := 0, overrides := 0, misplaced := 0, failed := 0 })
      (fun p d => s.switch.ports[p].known != (if d then .enabled else .disabled) || d != s.switch.ports[p].desired) s t ∧
    t.switch = { s.switch with
      ports := t.switch.ports, queue := t.switch.queue, untagged := 0, badPort := 0, foreignType := 0, blocked := 0
      inactive := 0, lineErrors := 0, strays := 0, sent := 0, failures := 0 } ∧
    (s.bus.access = none ∨ (∀ g, agentWaiting s g = true → waitOf s.bus.waits g < 4) →
      LogsAll (reloadEvents s t) (if o.page = c.page then s else newPage) t ∧
      Raises (if keyMoves (levelWith t .keyA) (levelWith t .keyB) s.grant then [flagGrantChange] else []) s t)

/-- IMAGE_CHECK_END: an image gives the settings its sections name and is judged by the checks of R184 in their order. At
start-up a silent settings memory is fault 1 and a failed check its code; an accepted image is
kept for the copies, and so in a RELOADING entered from CONFIG_FAULT, which returns there with the code of a failed check;
a RELOADING entered from ACTIVE resumes with CONFIG_REJECTED, after it ENCODER_ERROR and the records before D SUSPECT where
an edge was noted, or replaces the configuration: the ring refilled, counts cleared but the trigger counts of cameras
configured under both, policy NORMAL, key pairs and grant by the new key lines, roles, desired states and commands, line
records, the robots' contexts, and the events of all this (`TakesEffect`), with a held read completed with the word of the
bank that was HOST (R22, R44, R60, R84, R95, R121, R139, R152, R166, R168, R174, R182, R183, R184, R185, R186,
R188; the reading as one event, log 34, the order of its parts and of its events, log 21; what the checks leave open,
log 17; the copies as one entry of the writer's list, log 56; ENCODER_ERROR's second detail free, log 11; the slot of the
held read within the command, log 35, its whole word, log 44; commands for new desired states, log 40; held levels of
outputs no longer configured, log 60; line records compared whole, log 65). -/
def Obligations.ImageChecksEnd : Prop :=
  (∀ ws : List Word, ImageJudged ws) ∧ ∀ s : State,
    (s.bus.device = .loading → s.loader.copying = false →
      (∃ t, exec (.imageCheckEnd false) s = .next t ∧ Faulted ⟨1, 0⟩ s t) ∧
      (∀ x, checkImage (storedImage s) = some x →
        s.cfg = none → ∃ t, exec (.imageCheckEnd true) s = .next t ∧ Faulted x s t) ∧
      (checkImage (storedImage s) = none → s.cfg = none →
        ∃ t, exec (.imageCheckEnd true) s = .next t ∧ t.loader.accepted = some (settingsOf (storedImage s)) ∧
          t.loader.copying = true ∧ Job.copies ∈ t.writer.queue ∧ OnlyAsks [.loader] s t)) ∧
    (∀ a : Bool, s.bus.device = .reloading → s.cfg = none → s.loader.copying = false → s.loader.reading = false →
      (∀ x, checkImage s.loader.image = some x → ∃ t, exec (.imageCheckEnd a) s = .next t ∧ Faulted x s t) ∧
      (checkImage s.loader.image = none →
        ∃ t, exec (.imageCheckEnd a) s = .next t ∧ OnlyAsks [.loader] s t ∧ Job.copies ∈ t.writer.queue ∧
          t.loader = { s.loader with copying := true, copied := false, accepted := some (settingsOf s.loader.image) })) ∧
    ∀ (o : Settings) (a : Bool), s.bus.device = .reloading → s.cfg = some o → s.loader.copying = false →
      s.loader.reading = false →
      (∀ x, checkImage s.loader.image = some x →
        ∃ t, exec (.imageCheckEnd a) s = .next t ∧ t.bus = { s.bus with device := .active } ∧ t.cfg = some o ∧
          t.time.nextCycle.isSome = true ∧ t.time.now = s.time.now ∧ t.loader = Loader.reset ∧ t.grant = s.grant ∧
          t.robots = s.robots ∧ t.switch = s.switch ∧ t.sram = s.sram ∧
          t.track.pairA = levelWith t .encoderA ∧ t.track.pairB = levelWith t .encoderB ∧
          (s.track.edgeNoted = false → Logs .configRejected 0 (BitVec.ofNat 16 x.code) (BitVec.ofNat 16 x.item) s t ∧
            t.track = { s.track with pairA := t.track.pairA, pairB := t.track.pairB }) ∧
          (s.track.edgeNoted = true → MarksSuspect s t ∧
            t.track = { s.track with pairA := t.track.pairA, pairB := t.track.pairB, ring := t.track.ring
                                     queues := t.track.queues, encoderErrors := satInc s.track.encoderErrors } ∧
            ∃ d : Word, LogsAll [⟨.configRejected, 0, s.time.now, s.time.state, BitVec.ofNat 16 x.code,
                BitVec.ofNat 16 x.item⟩, ⟨.encoderError, 0, s.time.now, s.time.state, 2, d⟩] s t)) ∧
      (checkImage s.loader.image = none →
        let c := settingsOf s.loader.image
        ∃ t, exec (.imageCheckEnd a) s = .next t ∧ TakesEffect o c s t ∧
          (s.bus.access = none → t.sram = s.sram) ∧
          ∀ x : Access, s.bus.access = some x → x.held = true → x.write = false → t.bus.access = none ∧
            ∀ (r : Fin 8) (base n j : Nat) (rc : Bool) (h : Fin 3), x.fate = .window false r base n j rc →
              outBank s.robots[r] .host = some h → t.bus.readData = t.sram.readWord (base + h.val * n + j) ∧
                ((∀ g, agentWaiting s g = true → waitOf s.bus.waits g < 4) → t.sram = s.sram))

/-- The status that a request word starts with: GRANT, PORT and POLICY with the granted level and duration, the desired state
of port 0 and the policy as they stand, MARK low the latch, OUTCOME_READ and EVENT_READ the read indices, GENERAL_OUT the
configured set and the held levels, TIME_CAPTURE what it showed, and every other word 0 (R175). -/
def Sys2Proof.Claims.startsWith (c : Settings) (s t : State) (i : Fin 26) : Word :=
  let outputs := (allLines.filter fun l => c.lines[l].fn == .generalOut).length
  match i.val with
  | 16 => if t.grant.isOpen then BitVec.ofNat 16 (levelCode t.grant.granted * 256 + t.grant.duration.toNat) else 0
  | 17 => if t.switch.ports[0].desired then 0x0100 else 0
  | 18 => BitVec.ofNat 16 (policyCode t.reject.policy)
  | 19 => t.track.markLatch
  | 21 => BitVec.ofNat 16 t.reject.readIx
  | 22 => BitVec.ofNat 16 t.notice.readIx
  | 23 => BitVec.ofNat 16 ((2 ^ min outputs 8 - 1) * 256 + t.lines.held.toNat)
  | 25 => s.notice.status[25]
  | _ => 0

/-- ACTIVE_ENTRY: with the copies made the device is ACTIVE with its configuration and generation; CONFIG_DONE is raised
and the schedule starts now, its next CYCLE the first aligned time later than now; every request word but TIME_CAPTURE is
to be written with its starting status. After a full reset the ring is built, the lines take their records, the encoder and
key pairs are those that the lines show, and the roles take effect, every port with its desired state and, in port order,
a PORT_SET for it. After a RELOAD the blocks stand as the configuration found them. A store asked for begins (R14, R23, R42,
R141, R165, R167, R168, R175, R185, R188, R189; the entry as an event of its own, log 9; aligned times on unsigned numbers,
log 4; line records compared whole, log 65). -/
def Obligations.ActiveIsEntered : Prop :=
  ∀ (s : State) (c : Settings), s.loader.accepted = some c → s.loader.copied = true →
    (s.cfg = none ∨ s.cfg = some c) →
    ∃ t, exec .activeEntry s = .next t ∧ t.bus.device = .active ∧ t.cfg = some c ∧
      t.bus.generation = c.generation ∧ t.bus.storing = s.loader.storeAfter ∧ t.bus.refusals = s.bus.refusals ∧
      t.notice.flags.getLsbD flagConfigDone = true ∧ t.time.schedStart = some s.time.now ∧
      t.time.lastCycle = none ∧ t.time.cycleNumber = s.time.cycleNumber ∧
      t.time.nextCycle = some (alignedAfter c.time s.time.now) ∧
      (0 < c.time.periodUs → FirstAfter c.time s.time.now (alignedAfter c.time s.time.now)) ∧ t.sram = s.sram ∧
      (s.cfg = none → t.track.ring.length = c.track.len ∧
        (∀ x ∈ t.track.ring, x.empty = true ∧ x.entry = s.time.now) ∧
        KeysTaken s t ∧ LinesTaken c s t ∧ t.lines.held = s.lines.held ∧
        RolesTaken c (fun p => s.switch.ports[p]) (fun _ _ => true) s t ∧
        t.switch = { s.switch with ports := t.switch.ports, queue := t.switch.queue } ∧
        (s.switch.queue = [] → s.grant.isOpen = false → t.switch.queue = allPorts.map fun p =>
          ⟨p, if wants false { s.switch.ports[p] with role := c.ports.roles[p] } then .enable else .disable⟩) ∧
        LogsAll (keyEvents (levelWith t .keyA) (levelWith t .keyB) 4 s.reject.policy s t) { s with cfg := some c } t ∧
        Raises (flagConfigDone :: if keyMoves (levelWith t .keyA) (levelWith t .keyB) s.grant then [flagGrantChange]
          else []) s t) ∧
      (s.cfg = some c → t.track = { s.track with pairA := levelWith s .encoderA, pairB := levelWith s .encoderB } ∧
        t.switch = s.switch ∧ t.lines = s.lines ∧ t.grant = s.grant ∧ t.robots = s.robots ∧ t.cameras = s.cameras ∧
        t.reject = s.reject ∧ LogsNothing s t ∧ Raises [flagConfigDone] s t) ∧
      (∀ i : Fin 26, t.notice.status[i] = startsWith c s t i ∧
        (i.val < 25 → Job.mirror (.request i) ∈ t.writer.queue))

/-- The settings memory as a failed store leaves it: with `n` writes answered word 0 is 0, the words after it up to word
n − 1 are the image's and the others as they were, and with none nothing changed; where the reading back fails every word is
the image's, but the one that reads back otherwise (R189; the operand gives the place and the word read, log 20). -/
def Sys2Proof.Claims.StoredPartly (s t : State) (f : StoreFault) : Prop :=
  let ws := s.loader.image
  let image := fun k : Nat => t.settingsMem.readWord k = ws.getD k 0
  match f with
  | .writeNoAnswer n => (n = 0 → t.settingsMem = s.settingsMem) ∧
      (0 < n → t.settingsMem.readWord 0 = 0 ∧ (∀ k, 0 < k → k < n → image k) ∧
        ∀ b, 2 ≤ b → 2 * n ≤ b → t.settingsMem.readByte b = s.settingsMem.readByte b)
  | .readNoAnswer _ => (∀ k < ws.length, image k) ∧
      ∀ b, 2 * ws.length ≤ b → 2 ≤ b → t.settingsMem.readByte b = s.settingsMem.readByte b
  | .mismatch a w => t.settingsMem.readWord a = w ∧ (∀ k < ws.length, k ≠ a → image k) ∧
      ∀ b, 2 * ws.length ≤ b → 2 ≤ b → t.settingsMem.readByte b = s.settingsMem.readByte b

/-- STORE_COMPLETE and STORE_FAILED: a completed store leaves the image in the settings memory, word for word; a store
that ends, either way, ends STORING; a failed one reports its cause and address, word 0 for the last write, and leaves what
it had written (R189; how it fails is the operand, log 20). -/
def Obligations.StoresEnd : Prop :=
  ∀ s : State, s.bus.storing = true →
    (∃ t, exec .storeComplete s = .next t ∧ t.bus = { s.bus with storing := false } ∧ t.loader = Loader.reset ∧
      (s.settingsMem.wf = true → ∀ (k : Nat) (v : Word), s.loader.image[k]? = some v → t.settingsMem.readWord k = v) ∧
      (∀ a, 2 * s.loader.image.length ≤ a → 2 ≤ a → t.settingsMem.readByte a = s.settingsMem.readByte a) ∧
      OnlyAsks [.settingsMem, .bus, .loader] s t) ∧
    (∀ f : StoreFault, storeFaultFits s.loader.image f = true →
      ∃ t cause addr, exec (.storeFailed f) s = .next t ∧ t.bus = { s.bus with storing := false } ∧
        t.loader = Loader.reset ∧ Logs .storeFailed 0 cause addr s t ∧
        (∀ n, f = .writeNoAnswer n → cause = 1 ∧
          addr = if n = s.loader.image.length then 0 else BitVec.ofNat 16 n) ∧
        (∀ a, f = .readNoAnswer a → cause = 1 ∧ addr = BitVec.ofNat 16 a) ∧
        (∀ a w, f = .mismatch a w → cause = 2 ∧ addr = BitVec.ofNat 16 a) ∧
        (s.settingsMem.wf = true → StoredPartly s t f) ∧
        Raises [] s t ∧ NoticeKept s t ∧ OnlyAsks [.settingsMem, .bus, .loader, .notice] s t)

/-- RELOADING is entered: the device state, the schedule stopped, the waiting frames gone, the staged image to be read, and
each answer in reception or in deposit given up, its FILLING bank FREE and its answer state DUE; a robot without one stands
as it is (R14, R139, R187). -/
def Sys2Proof.Claims.Reloads (store : Bool) (s t : State) : Prop :=
  t.bus.device = .reloading ∧ t.bus.reloadRefusals = 0 ∧ t.bus.reloadRecord = none ∧ t.time.nextCycle = none ∧
    t.time.now = s.time.now ∧ t.time.cycleNumber = s.time.cycleNumber ∧ t.cfg = s.cfg ∧
    t.loader.reading = true ∧ t.loader.image = [] ∧ t.loader.storeAfter = store ∧ Job.readImage ∈ t.writer.queue ∧
    t.field.sendList = [] ∧ t.field.deposits = [] ∧ 
    (∀ r : Fin 8, ∀ x ∈ s.robots[r].answer, t.robots[r] = { s.robots[r] with
      answer := none, inp := s.robots[r].inp.set x.bank .free, answerState := .due }) ∧
    (∀ r : Fin 8, s.robots[r].answer = none → t.robots[r] = s.robots[r]) ∧
    (∀ x ∈ s.field.receiving, ∀ p r z, x.stage = .answer p r z →
      t.field.receiving = some { x with stage := .answer p r .abandoned }) ∧
    Only [.bus, .time, .track, .robots, .field, .loader, .writer, .notice, .sram] s t

/-- RELOAD and RELOAD_AND_STORE at effective level MAINTAIN outside STORING, and FAULT_RELOAD and FAULT_RELOAD_AND_STORE
in CONFIG_FAULT at any, enter RELOADING; a store in progress or a lower level ignores the request with its reason (R97,
R186, R187). -/
def Obligations.ReloadsBegin : Prop :=
  ∀ s : State,
    (∀ c : Settings, Serving s c →
      (s.bus.storing = false → effectiveLevel s = .maintain →
        (∃ t, exec .reload s = .next t ∧ Reloads false s t ∧ Stores (c.page + 40) 0x0102 s t) ∧
        (∃ t, exec .reloadAndStore s = .next t ∧ Reloads true s t ∧ Stores (c.page + 40) 0x0103 s t)) ∧
      ∀ reason : Word, (s.bus.storing = true ∧ reason = 10) ∨
          (s.bus.storing = false ∧ effectiveLevel s ≠ .maintain ∧ reason = 4) →
        (∃ t, exec .reload s = .next t ∧ Logs .requestIgnored 40 reason 2 s t ∧ Raises [] s t ∧ Answers c 24 2 [] s t) ∧
        (∃ t, exec .reloadAndStore s = .next t ∧ Logs .requestIgnored 40 reason 3 s t ∧ Raises [] s t ∧
          Answers c 24 3 [] s t)) ∧
    (s.bus.device = .configFault → s.bus.access = none → arbiter true s = some .processor →
      (∃ t, exec .faultReload s = .next t ∧ Reloads false s t ∧ Stores 0x7F028 2 s t) ∧
      (∃ t, exec .faultReloadAndStore s = .next t ∧ Reloads true s t ∧ Stores 0x7F028 3 s t))
end

