-- ==== Sys2Proof/Laws/State.lean ====
section
/-! SUPPORT. One lemma per update of State: what it writes, and every field it leaves alone; and the rules by which a
fold over a list, or work at a position, leaves a field alone. -/

namespace Sys2Proof.Machine

open Sys2Proof


@[simp] theorem raiseFlag_own (n : Nat) (s : State) :
    (raiseFlag n s).notice = { s.notice with flags := s.notice.flags ||| BitVec.ofNat 16 (2 ^ n) } := rfl

@[simp] theorem raiseFlag_frame (n : Nat) (s : State) :
    let t := raiseFlag n s
    t.pending = s.pending ∧ t.free = s.free ∧ t.sram = s.sram ∧ t.settingsMem = s.settingsMem ∧ t.cfg = s.cfg ∧
      t.bus = s.bus ∧ t.time = s.time ∧ t.track = s.track ∧ t.cameras = s.cameras ∧ t.reject = s.reject ∧
      t.robots = s.robots ∧ t.engine = s.engine ∧ t.field = s.field ∧ t.grant = s.grant ∧ t.switch = s.switch ∧
      t.lines = s.lines ∧ t.writer = s.writer ∧ t.loader = s.loader := by
  intro t
  and_intros <;> rfl

@[simp] theorem writeSram_own (a : Nat) (w : Word) (s : State) :
    (writeSram a w s).sram = s.sram.writeWord a w := rfl

@[simp] theorem writeSram_frame (a : Nat) (w : Word) (s : State) :
    let t := writeSram a w s
    t.pending = s.pending ∧ t.free = s.free ∧ t.settingsMem = s.settingsMem ∧ t.cfg = s.cfg ∧ t.bus = s.bus ∧
      t.time = s.time ∧ t.track = s.track ∧ t.cameras = s.cameras ∧ t.reject = s.reject ∧ t.robots = s.robots ∧
      t.engine = s.engine ∧ t.field = s.field ∧ t.grant = s.grant ∧ t.switch = s.switch ∧ t.lines = s.lines ∧
      t.notice = s.notice ∧ t.writer = s.writer ∧ t.loader = s.loader := by
  intro t
  and_intros <;> rfl

@[simp] theorem nextFree_own (s : State) :
    (nextFree s).free = s.free + 1 := rfl

@[simp] theorem nextFree_frame (s : State) :
    let t := nextFree s
    t.pending = s.pending ∧ t.sram = s.sram ∧ t.settingsMem = s.settingsMem ∧ t.cfg = s.cfg ∧ t.bus = s.bus ∧
      t.time = s.time ∧ t.track = s.track ∧ t.cameras = s.cameras ∧ t.reject = s.reject ∧ t.robots = s.robots ∧
      t.engine = s.engine ∧ t.field = s.field ∧ t.grant = s.grant ∧ t.switch = s.switch ∧ t.lines = s.lines ∧
      t.notice = s.notice ∧ t.writer = s.writer ∧ t.loader = s.loader := by
  intro t
  and_intros <;> rfl

@[simp] theorem setWaits_own (f : Waits → Waits) (s : State) :
    (setWaits f s).bus = { s.bus with waits := f s.bus.waits } := rfl

@[simp] theorem setWaits_frame (f : Waits → Waits) (s : State) :
    let t := setWaits f s
    t.pending = s.pending ∧ t.free = s.free ∧ t.sram = s.sram ∧ t.settingsMem = s.settingsMem ∧ t.cfg = s.cfg ∧
      t.time = s.time ∧ t.track = s.track ∧ t.cameras = s.cameras ∧ t.reject = s.reject ∧ t.robots = s.robots ∧
      t.engine = s.engine ∧ t.field = s.field ∧ t.grant = s.grant ∧ t.switch = s.switch ∧ t.lines = s.lines ∧
      t.notice = s.notice ∧ t.writer = s.writer ∧ t.loader = s.loader := by
  intro t
  and_intros <;> rfl

@[simp] theorem enqueue_own (j : Job) (s : State) :
    (enqueue j s).writer = { s.writer with queue := s.writer.queue ++ [j] } := rfl

@[simp] theorem enqueue_frame (j : Job) (s : State) :
    let t := enqueue j s
    t.pending = s.pending ∧ t.free = s.free ∧ t.sram = s.sram ∧ t.settingsMem = s.settingsMem ∧ t.cfg = s.cfg ∧
      t.bus = s.bus ∧ t.time = s.time ∧ t.track = s.track ∧ t.cameras = s.cameras ∧ t.reject = s.reject ∧
      t.robots = s.robots ∧ t.engine = s.engine ∧ t.field = s.field ∧ t.grant = s.grant ∧ t.switch = s.switch ∧
      t.lines = s.lines ∧ t.notice = s.notice ∧ t.loader = s.loader := by
  intro t
  and_intros <;> rfl

@[simp] theorem setStatus_own (i : Fin 26) (w : Word) (s : State) :
    (setStatus i w s).notice = { s.notice with status := s.notice.status.set i w } := rfl

@[simp] theorem setStatus_frame (i : Fin 26) (w : Word) (s : State) :
    let t := setStatus i w s
    t.pending = s.pending ∧ t.free = s.free ∧ t.sram = s.sram ∧ t.settingsMem = s.settingsMem ∧ t.cfg = s.cfg ∧
      t.bus = s.bus ∧ t.time = s.time ∧ t.track = s.track ∧ t.cameras = s.cameras ∧ t.reject = s.reject ∧
      t.robots = s.robots ∧ t.engine = s.engine ∧ t.field = s.field ∧ t.grant = s.grant ∧ t.switch = s.switch ∧
      t.lines = s.lines ∧ t.writer = s.writer ∧ t.loader = s.loader := by
  intro t
  and_intros <;> rfl

@[simp] theorem updRobot_own (r : Fin 8) (f : Robot → Robot) (s : State) :
    (updRobot r f s).robots = modAt s.robots r f := rfl

@[simp] theorem updRobot_frame (r : Fin 8) (f : Robot → Robot) (s : State) :
    let t := updRobot r f s
    t.pending = s.pending ∧ t.free = s.free ∧ t.sram = s.sram ∧ t.settingsMem = s.settingsMem ∧ t.cfg = s.cfg ∧
      t.bus = s.bus ∧ t.time = s.time ∧ t.track = s.track ∧ t.cameras = s.cameras ∧ t.reject = s.reject ∧
      t.engine = s.engine ∧ t.field = s.field ∧ t.grant = s.grant ∧ t.switch = s.switch ∧ t.lines = s.lines ∧
      t.notice = s.notice ∧ t.writer = s.writer ∧ t.loader = s.loader := by
  intro t
  and_intros <;> rfl

@[simp] theorem updCamera_own (c : Fin 4) (f : Camera → Camera) (s : State) :
    (updCamera c f s).cameras = modAt s.cameras c f := rfl

@[simp] theorem updCamera_frame (c : Fin 4) (f : Camera → Camera) (s : State) :
    let t := updCamera c f s
    t.pending = s.pending ∧ t.free = s.free ∧ t.sram = s.sram ∧ t.settingsMem = s.settingsMem ∧ t.cfg = s.cfg ∧
      t.bus = s.bus ∧ t.time = s.time ∧ t.track = s.track ∧ t.reject = s.reject ∧ t.robots = s.robots ∧
      t.engine = s.engine ∧ t.field = s.field ∧ t.grant = s.grant ∧ t.switch = s.switch ∧ t.lines = s.lines ∧
      t.notice = s.notice ∧ t.writer = s.writer ∧ t.loader = s.loader := by
  intro t
  and_intros <;> rfl

@[simp] theorem updPort_own (p : Fin 16) (f : Port → Port) (s : State) :
    (updPort p f s).switch = { s.switch with ports := modAt s.switch.ports p f } := rfl

@[simp] theorem updPort_frame (p : Fin 16) (f : Port → Port) (s : State) :
    let t := updPort p f s
    t.pending = s.pending ∧ t.free = s.free ∧ t.sram = s.sram ∧ t.settingsMem = s.settingsMem ∧ t.cfg = s.cfg ∧
      t.bus = s.bus ∧ t.time = s.time ∧ t.track = s.track ∧ t.cameras = s.cameras ∧ t.reject = s.reject ∧
      t.robots = s.robots ∧ t.engine = s.engine ∧ t.field = s.field ∧ t.grant = s.grant ∧ t.lines = s.lines ∧
      t.notice = s.notice ∧ t.writer = s.writer ∧ t.loader = s.loader := by
  intro t
  and_intros <;> rfl

@[simp] theorem updLine_own (l : Fin 16) (f : Line → Line) (s : State) :
    (updLine l f s).lines = { s.lines with line := modAt s.lines.line l f } := rfl

@[simp] theorem updLine_frame (l : Fin 16) (f : Line → Line) (s : State) :
    let t := updLine l f s
    t.pending = s.pending ∧ t.free = s.free ∧ t.sram = s.sram ∧ t.settingsMem = s.settingsMem ∧ t.cfg = s.cfg ∧
      t.bus = s.bus ∧ t.time = s.time ∧ t.track = s.track ∧ t.cameras = s.cameras ∧ t.reject = s.reject ∧
      t.robots = s.robots ∧ t.engine = s.engine ∧ t.field = s.field ∧ t.grant = s.grant ∧ t.switch = s.switch ∧
      t.notice = s.notice ∧ t.writer = s.writer ∧ t.loader = s.loader := by
  intro t
  and_intros <;> rfl

@[simp] theorem updQueue_own (r : Fin 8) (f : List Announce → List Announce) (s : State) :
    (updQueue r f s).track = { s.track with queues := modAt s.track.queues r f } := rfl

@[simp] theorem updQueue_frame (r : Fin 8) (f : List Announce → List Announce) (s : State) :
    let t := updQueue r f s
    t.pending = s.pending ∧ t.free = s.free ∧ t.sram = s.sram ∧ t.settingsMem = s.settingsMem ∧ t.cfg = s.cfg ∧
      t.bus = s.bus ∧ t.time = s.time ∧ t.cameras = s.cameras ∧ t.reject = s.reject ∧ t.robots = s.robots ∧
      t.engine = s.engine ∧ t.field = s.field ∧ t.grant = s.grant ∧ t.switch = s.switch ∧ t.lines = s.lines ∧
      t.notice = s.notice ∧ t.writer = s.writer ∧ t.loader = s.loader := by
  intro t
  and_intros <;> rfl

@[simp] theorem updRecord_own (q : Seq) (f : Record → Record) (s : State) :
    (updRecord q f s).track = { s.track with ring := s.track.ring.map fun c => if c.seq = q then f c else c } ∧
      (updRecord q f s).reject =
        { s.reject with exitQueue := s.reject.exitQueue.map fun c => if c.seq = q then f c else c } := by and_intros <;> rfl

@[simp] theorem updRecord_frame (q : Seq) (f : Record → Record) (s : State) :
    let t := updRecord q f s
    t.pending = s.pending ∧ t.free = s.free ∧ t.sram = s.sram ∧ t.settingsMem = s.settingsMem ∧ t.cfg = s.cfg ∧
      t.bus = s.bus ∧ t.time = s.time ∧ t.cameras = s.cameras ∧ t.robots = s.robots ∧ t.engine = s.engine ∧
      t.field = s.field ∧ t.grant = s.grant ∧ t.switch = s.switch ∧ t.lines = s.lines ∧ t.notice = s.notice ∧
      t.writer = s.writer ∧ t.loader = s.loader := by
  intro t
  and_intros <;> rfl

@[simp] theorem updReject_own (f : RejectUnit → RejectUnit) (s : State) :
    (updReject f s).reject = f s.reject := rfl

@[simp] theorem updReject_frame (f : RejectUnit → RejectUnit) (s : State) :
    let t := updReject f s
    t.pending = s.pending ∧ t.free = s.free ∧ t.sram = s.sram ∧ t.settingsMem = s.settingsMem ∧ t.cfg = s.cfg ∧
      t.bus = s.bus ∧ t.time = s.time ∧ t.track = s.track ∧ t.cameras = s.cameras ∧ t.robots = s.robots ∧
      t.engine = s.engine ∧ t.field = s.field ∧ t.grant = s.grant ∧ t.switch = s.switch ∧ t.lines = s.lines ∧
      t.notice = s.notice ∧ t.writer = s.writer ∧ t.loader = s.loader := by
  intro t
  and_intros <;> rfl

@[simp] theorem placeEntry_own (e : EjectEntry) (s : State) :
    (placeEntry e s).reject = { s.reject with list := insertEntry e s.reject.list } := rfl

@[simp] theorem placeEntry_frame (e : EjectEntry) (s : State) :
    let t := placeEntry e s
    t.pending = s.pending ∧ t.free = s.free ∧ t.sram = s.sram ∧ t.settingsMem = s.settingsMem ∧ t.cfg = s.cfg ∧
      t.bus = s.bus ∧ t.time = s.time ∧ t.track = s.track ∧ t.cameras = s.cameras ∧ t.robots = s.robots ∧
      t.engine = s.engine ∧ t.field = s.field ∧ t.grant = s.grant ∧ t.switch = s.switch ∧ t.lines = s.lines ∧
      t.notice = s.notice ∧ t.writer = s.writer ∧ t.loader = s.loader := by
  intro t
  and_intros <;> rfl

@[simp] theorem leaveList_own (q : Seq) (s : State) :
    (leaveList q s).reject = { s.reject with list := s.reject.list.filter (fun e => e.seq ≠ q) } := rfl

@[simp] theorem leaveList_frame (q : Seq) (s : State) :
    let t := leaveList q s
    t.pending = s.pending ∧ t.free = s.free ∧ t.sram = s.sram ∧ t.settingsMem = s.settingsMem ∧ t.cfg = s.cfg ∧
      t.bus = s.bus ∧ t.time = s.time ∧ t.track = s.track ∧ t.cameras = s.cameras ∧ t.robots = s.robots ∧
      t.engine = s.engine ∧ t.field = s.field ∧ t.grant = s.grant ∧ t.switch = s.switch ∧ t.lines = s.lines ∧
      t.notice = s.notice ∧ t.writer = s.writer ∧ t.loader = s.loader := by
  intro t
  and_intros <;> rfl

@[simp] theorem updTrack_own (f : TrackUnit → TrackUnit) (s : State) :
    (updTrack f s).track = f s.track := rfl

@[simp] theorem updTrack_frame (f : TrackUnit → TrackUnit) (s : State) :
    let t := updTrack f s
    t.pending = s.pending ∧ t.free = s.free ∧ t.sram = s.sram ∧ t.settingsMem = s.settingsMem ∧ t.cfg = s.cfg ∧
      t.bus = s.bus ∧ t.time = s.time ∧ t.cameras = s.cameras ∧ t.reject = s.reject ∧ t.robots = s.robots ∧
      t.engine = s.engine ∧ t.field = s.field ∧ t.grant = s.grant ∧ t.switch = s.switch ∧ t.lines = s.lines ∧
      t.notice = s.notice ∧ t.writer = s.writer ∧ t.loader = s.loader := by
  intro t
  and_intros <;> rfl

@[simp] theorem setPair_own (a b : Bool) (s : State) :
    (setPair a b s).track = { s.track with pairA := a, pairB := b } := rfl

@[simp] theorem setPair_frame (a b : Bool) (s : State) :
    let t := setPair a b s
    t.pending = s.pending ∧ t.free = s.free ∧ t.sram = s.sram ∧ t.settingsMem = s.settingsMem ∧ t.cfg = s.cfg ∧
      t.bus = s.bus ∧ t.time = s.time ∧ t.cameras = s.cameras ∧ t.reject = s.reject ∧ t.robots = s.robots ∧
      t.engine = s.engine ∧ t.field = s.field ∧ t.grant = s.grant ∧ t.switch = s.switch ∧ t.lines = s.lines ∧
      t.notice = s.notice ∧ t.writer = s.writer ∧ t.loader = s.loader := by
  intro t
  and_intros <;> rfl

@[simp] theorem setCheck_own (c : Option CheckRun) (s : State) :
    (setCheck c s).engine = { s.engine with current := c } := rfl

@[simp] theorem setCheck_frame (c : Option CheckRun) (s : State) :
    let t := setCheck c s
    t.pending = s.pending ∧ t.free = s.free ∧ t.sram = s.sram ∧ t.settingsMem = s.settingsMem ∧ t.cfg = s.cfg ∧
      t.bus = s.bus ∧ t.time = s.time ∧ t.track = s.track ∧ t.cameras = s.cameras ∧ t.reject = s.reject ∧
      t.robots = s.robots ∧ t.field = s.field ∧ t.grant = s.grant ∧ t.switch = s.switch ∧ t.lines = s.lines ∧
      t.notice = s.notice ∧ t.writer = s.writer ∧ t.loader = s.loader := by
  intro t
  and_intros <;> rfl

@[simp] theorem updSwitch_own (f : SwitchUnit → SwitchUnit) (s : State) :
    (updSwitch f s).switch = f s.switch := rfl

@[simp] theorem updSwitch_frame (f : SwitchUnit → SwitchUnit) (s : State) :
    let t := updSwitch f s
    t.pending = s.pending ∧ t.free = s.free ∧ t.sram = s.sram ∧ t.settingsMem = s.settingsMem ∧ t.cfg = s.cfg ∧
      t.bus = s.bus ∧ t.time = s.time ∧ t.track = s.track ∧ t.cameras = s.cameras ∧ t.reject = s.reject ∧
      t.robots = s.robots ∧ t.engine = s.engine ∧ t.field = s.field ∧ t.grant = s.grant ∧ t.lines = s.lines ∧
      t.notice = s.notice ∧ t.writer = s.writer ∧ t.loader = s.loader := by
  intro t
  and_intros <;> rfl

@[simp] theorem setStage_own (x : RxStage) (s : State) :
    (setStage x s).field = { s.field with receiving := s.field.receiving.map fun r => { r with stage := x } } := rfl

@[simp] theorem setStage_frame (x : RxStage) (s : State) :
    let t := setStage x s
    t.pending = s.pending ∧ t.free = s.free ∧ t.sram = s.sram ∧ t.settingsMem = s.settingsMem ∧ t.cfg = s.cfg ∧
      t.bus = s.bus ∧ t.time = s.time ∧ t.track = s.track ∧ t.cameras = s.cameras ∧ t.reject = s.reject ∧
      t.robots = s.robots ∧ t.engine = s.engine ∧ t.grant = s.grant ∧ t.switch = s.switch ∧ t.lines = s.lines ∧
      t.notice = s.notice ∧ t.writer = s.writer ∧ t.loader = s.loader := by
  intro t
  and_intros <;> rfl

@[simp] theorem updGrant_own (f : GrantUnit → GrantUnit) (s : State) :
    (updGrant f s).grant = f s.grant := rfl

@[simp] theorem updGrant_frame (f : GrantUnit → GrantUnit) (s : State) :
    let t := updGrant f s
    t.pending = s.pending ∧ t.free = s.free ∧ t.sram = s.sram ∧ t.settingsMem = s.settingsMem ∧ t.cfg = s.cfg ∧
      t.bus = s.bus ∧ t.time = s.time ∧ t.track = s.track ∧ t.cameras = s.cameras ∧ t.reject = s.reject ∧
      t.robots = s.robots ∧ t.engine = s.engine ∧ t.field = s.field ∧ t.switch = s.switch ∧ t.lines = s.lines ∧
      t.notice = s.notice ∧ t.writer = s.writer ∧ t.loader = s.loader := by
  intro t
  and_intros <;> rfl

@[simp] theorem updLines_own (f : LineUnit → LineUnit) (s : State) :
    (updLines f s).lines = f s.lines := rfl

@[simp] theorem updLines_frame (f : LineUnit → LineUnit) (s : State) :
    let t := updLines f s
    t.pending = s.pending ∧ t.free = s.free ∧ t.sram = s.sram ∧ t.settingsMem = s.settingsMem ∧ t.cfg = s.cfg ∧
      t.bus = s.bus ∧ t.time = s.time ∧ t.track = s.track ∧ t.cameras = s.cameras ∧ t.reject = s.reject ∧
      t.robots = s.robots ∧ t.engine = s.engine ∧ t.field = s.field ∧ t.grant = s.grant ∧ t.switch = s.switch ∧
      t.notice = s.notice ∧ t.writer = s.writer ∧ t.loader = s.loader := by
  intro t
  and_intros <;> rfl

@[simp] theorem updTime_own (f : TimeUnit → TimeUnit) (s : State) :
    (updTime f s).time = f s.time := rfl

@[simp] theorem updTime_frame (f : TimeUnit → TimeUnit) (s : State) :
    let t := updTime f s
    t.pending = s.pending ∧ t.free = s.free ∧ t.sram = s.sram ∧ t.settingsMem = s.settingsMem ∧ t.cfg = s.cfg ∧
      t.bus = s.bus ∧ t.track = s.track ∧ t.cameras = s.cameras ∧ t.reject = s.reject ∧ t.robots = s.robots ∧
      t.engine = s.engine ∧ t.field = s.field ∧ t.grant = s.grant ∧ t.switch = s.switch ∧ t.lines = s.lines ∧
      t.notice = s.notice ∧ t.writer = s.writer ∧ t.loader = s.loader := by
  intro t
  and_intros <;> rfl

@[simp] theorem clearReceiving_own (s : State) :
    (clearReceiving s).field = { s.field with receiving := none } := rfl

@[simp] theorem clearReceiving_frame (s : State) :
    let t := clearReceiving s
    t.pending = s.pending ∧ t.free = s.free ∧ t.sram = s.sram ∧ t.settingsMem = s.settingsMem ∧ t.cfg = s.cfg ∧
      t.bus = s.bus ∧ t.time = s.time ∧ t.track = s.track ∧ t.cameras = s.cameras ∧ t.reject = s.reject ∧
      t.robots = s.robots ∧ t.engine = s.engine ∧ t.grant = s.grant ∧ t.switch = s.switch ∧ t.lines = s.lines ∧
      t.notice = s.notice ∧ t.writer = s.writer ∧ t.loader = s.loader := by
  intro t
  and_intros <;> rfl

@[simp] theorem updBus_own (f : Bus → Bus) (s : State) :
    (updBus f s).bus = f s.bus := rfl

@[simp] theorem updBus_frame (f : Bus → Bus) (s : State) :
    let t := updBus f s
    t.pending = s.pending ∧ t.free = s.free ∧ t.sram = s.sram ∧ t.settingsMem = s.settingsMem ∧ t.cfg = s.cfg ∧
      t.time = s.time ∧ t.track = s.track ∧ t.cameras = s.cameras ∧ t.reject = s.reject ∧ t.robots = s.robots ∧
      t.engine = s.engine ∧ t.field = s.field ∧ t.grant = s.grant ∧ t.switch = s.switch ∧ t.lines = s.lines ∧
      t.notice = s.notice ∧ t.writer = s.writer ∧ t.loader = s.loader := by
  intro t
  and_intros <;> rfl

@[simp] theorem updLoader_own (f : Loader → Loader) (s : State) :
    (updLoader f s).loader = f s.loader := rfl

@[simp] theorem updLoader_frame (f : Loader → Loader) (s : State) :
    let t := updLoader f s
    t.pending = s.pending ∧ t.free = s.free ∧ t.sram = s.sram ∧ t.settingsMem = s.settingsMem ∧ t.cfg = s.cfg ∧
      t.bus = s.bus ∧ t.time = s.time ∧ t.track = s.track ∧ t.cameras = s.cameras ∧ t.reject = s.reject ∧
      t.robots = s.robots ∧ t.engine = s.engine ∧ t.field = s.field ∧ t.grant = s.grant ∧ t.switch = s.switch ∧
      t.lines = s.lines ∧ t.notice = s.notice ∧ t.writer = s.writer := by
  intro t
  and_intros <;> rfl

@[simp] theorem endStoring_own (s : State) :
    (endStoring s).bus = { s.bus with storing := false } ∧ (endStoring s).loader = Loader.reset := by and_intros <;> rfl

@[simp] theorem endStoring_frame (s : State) :
    let t := endStoring s
    t.pending = s.pending ∧ t.free = s.free ∧ t.sram = s.sram ∧ t.settingsMem = s.settingsMem ∧ t.cfg = s.cfg ∧
      t.time = s.time ∧ t.track = s.track ∧ t.cameras = s.cameras ∧ t.reject = s.reject ∧ t.robots = s.robots ∧
      t.engine = s.engine ∧ t.field = s.field ∧ t.grant = s.grant ∧ t.switch = s.switch ∧ t.lines = s.lines ∧
      t.notice = s.notice ∧ t.writer = s.writer := by
  intro t
  and_intros <;> rfl

@[simp] theorem clearAccess_own (s : State) :
    (clearAccess s).bus = { s.bus with access := none } := rfl

@[simp] theorem clearAccess_frame (s : State) :
    let t := clearAccess s
    t.pending = s.pending ∧ t.free = s.free ∧ t.sram = s.sram ∧ t.settingsMem = s.settingsMem ∧ t.cfg = s.cfg ∧
      t.time = s.time ∧ t.track = s.track ∧ t.cameras = s.cameras ∧ t.reject = s.reject ∧ t.robots = s.robots ∧
      t.engine = s.engine ∧ t.field = s.field ∧ t.grant = s.grant ∧ t.switch = s.switch ∧ t.lines = s.lines ∧
      t.notice = s.notice ∧ t.writer = s.writer ∧ t.loader = s.loader := by
  intro t
  and_intros <;> rfl

@[simp] theorem granting_own (g : Requester) (s : State) :
    (granting g s).bus = { s.bus with waits := ⟨nextWait s g .reader, nextWait s g .deposit, nextWait s g .engine,
      nextWait s g .writer⟩ } := rfl

@[simp] theorem granting_frame (g : Requester) (s : State) :
    let t := granting g s
    t.pending = s.pending ∧ t.free = s.free ∧ t.sram = s.sram ∧ t.settingsMem = s.settingsMem ∧ t.cfg = s.cfg ∧
      t.time = s.time ∧ t.track = s.track ∧ t.cameras = s.cameras ∧ t.reject = s.reject ∧ t.robots = s.robots ∧
      t.engine = s.engine ∧ t.field = s.field ∧ t.grant = s.grant ∧ t.switch = s.switch ∧ t.lines = s.lines ∧
      t.notice = s.notice ∧ t.writer = s.writer ∧ t.loader = s.loader := by
  intro t
  and_intros <;> rfl

@[simp] theorem inFlight_own (a : Access) (s : State) :
    (inFlight a s).bus = { s.bus with access := some a } := rfl

@[simp] theorem inFlight_frame (a : Access) (s : State) :
    let t := inFlight a s
    t.pending = s.pending ∧ t.free = s.free ∧ t.sram = s.sram ∧ t.settingsMem = s.settingsMem ∧ t.cfg = s.cfg ∧
      t.time = s.time ∧ t.track = s.track ∧ t.cameras = s.cameras ∧ t.reject = s.reject ∧ t.robots = s.robots ∧
      t.engine = s.engine ∧ t.field = s.field ∧ t.grant = s.grant ∧ t.switch = s.switch ∧ t.lines = s.lines ∧
      t.notice = s.notice ∧ t.writer = s.writer ∧ t.loader = s.loader := by
  intro t
  and_intros <;> rfl

/-! ### Folds and positions -/

/-- What each step of a fold keeps, the fold keeps. -/
theorem foldl_keeps {α β : Type} (g : State → β) (f : State → α → State) (h : ∀ s a, g (f s a) = g s) (l : List α)
    (s : State) : g (l.foldl f s) = g s := by
  induction l generalizing s with
  | nil => rfl
  | cons x xs ih => simp [ih, h]

/-- What the work keeps, the work at a position keeps. -/
theorem atPosition_keeps {β : Type} (g : State → β) (p : Nat) (f : Record → State → State)
    (h : ∀ c s, g (f c s) = g s) (s : State) : g (atPosition p f s) = g s := by
  unfold atPosition
  split
  · split
    · rfl
    · exact h _ _
  · rfl

/-! ### Choices -/

@[simp] theorem ite_pending (p : Prop) [Decidable p] (a b : State) :
    (if p then a else b).pending = if p then a.pending else b.pending := apply_ite (·.pending) p a b

@[simp] theorem ite_free (p : Prop) [Decidable p] (a b : State) :
    (if p then a else b).free = if p then a.free else b.free := apply_ite (·.free) p a b

@[simp] theorem ite_sram (p : Prop) [Decidable p] (a b : State) :
    (if p then a else b).sram = if p then a.sram else b.sram := apply_ite (·.sram) p a b

@[simp] theorem ite_settingsMem (p : Prop) [Decidable p] (a b : State) :
    (if p then a else b).settingsMem = if p then a.settingsMem else b.settingsMem := apply_ite (·.settingsMem) p a b

@[simp] theorem ite_cfg (p : Prop) [Decidable p] (a b : State) :
    (if p then a else b).cfg = if p then a.cfg else b.cfg := apply_ite (·.cfg) p a b

@[simp] theorem ite_bus (p : Prop) [Decidable p] (a b : State) :
    (if p then a else b).bus = if p then a.bus else b.bus := apply_ite (·.bus) p a b

@[simp] theorem ite_time (p : Prop) [Decidable p] (a b : State) :
    (if p then a else b).time = if p then a.time else b.time := apply_ite (·.time) p a b

@[simp] theorem ite_track (p : Prop) [Decidable p] (a b : State) :
    (if p then a else b).track = if p then a.track else b.track := apply_ite (·.track) p a b

@[simp] theorem ite_cameras (p : Prop) [Decidable p] (a b : State) :
    (if p then a else b).cameras = if p then a.cameras else b.cameras := apply_ite (·.cameras) p a b

@[simp] theorem ite_reject (p : Prop) [Decidable p] (a b : State) :
    (if p then a else b).reject = if p then a.reject else b.reject := apply_ite (·.reject) p a b

@[simp] theorem ite_robots (p : Prop) [Decidable p] (a b : State) :
    (if p then a else b).robots = if p then a.robots else b.robots := apply_ite (·.robots) p a b

@[simp] theorem ite_engine (p : Prop) [Decidable p] (a b : State) :
    (if p then a else b).engine = if p then a.engine else b.engine := apply_ite (·.engine) p a b

@[simp] theorem ite_field (p : Prop) [Decidable p] (a b : State) :
    (if p then a else b).field = if p then a.field else b.field := apply_ite (·.field) p a b

@[simp] theorem ite_grant (p : Prop) [Decidable p] (a b : State) :
    (if p then a else b).grant = if p then a.grant else b.grant := apply_ite (·.grant) p a b

@[simp] theorem ite_switch (p : Prop) [Decidable p] (a b : State) :
    (if p then a else b).switch = if p then a.switch else b.switch := apply_ite (·.switch) p a b

@[simp] theorem ite_lines (p : Prop) [Decidable p] (a b : State) :
    (if p then a else b).lines = if p then a.lines else b.lines := apply_ite (·.lines) p a b

@[simp] theorem ite_notice (p : Prop) [Decidable p] (a b : State) :
    (if p then a else b).notice = if p then a.notice else b.notice := apply_ite (·.notice) p a b

@[simp] theorem ite_writer (p : Prop) [Decidable p] (a b : State) :
    (if p then a else b).writer = if p then a.writer else b.writer := apply_ite (·.writer) p a b

@[simp] theorem ite_loader (p : Prop) [Decidable p] (a b : State) :
    (if p then a else b).loader = if p then a.loader else b.loader := apply_ite (·.loader) p a b

@[simp] theorem foldl_pending {α : Type} (f : State → α → State) (h : ∀ s a, (f s a).pending = s.pending) (l : List α)
    (s : State) : (l.foldl f s).pending = s.pending := foldl_keeps (·.pending) f h l s

@[simp] theorem atPosition_pending (p : Nat) (f : Record → State → State) (h : ∀ c s, (f c s).pending = s.pending)
    (s : State) : (atPosition p f s).pending = s.pending := atPosition_keeps (·.pending) p f h s

@[simp] theorem foldl_free {α : Type} (f : State → α → State) (h : ∀ s a, (f s a).free = s.free) (l : List α)
    (s : State) : (l.foldl f s).free = s.free := foldl_keeps (·.free) f h l s

@[simp] theorem atPosition_free (p : Nat) (f : Record → State → State) (h : ∀ c s, (f c s).free = s.free)
    (s : State) : (atPosition p f s).free = s.free := atPosition_keeps (·.free) p f h s

@[simp] theorem foldl_sram {α : Type} (f : State → α → State) (h : ∀ s a, (f s a).sram = s.sram) (l : List α)
    (s : State) : (l.foldl f s).sram = s.sram := foldl_keeps (·.sram) f h l s

@[simp] theorem atPosition_sram (p : Nat) (f : Record → State → State) (h : ∀ c s, (f c s).sram = s.sram)
    (s : State) : (atPosition p f s).sram = s.sram := atPosition_keeps (·.sram) p f h s

@[simp] theorem foldl_settingsMem {α : Type} (f : State → α → State) (h : ∀ s a, (f s a).settingsMem = s.settingsMem) (l : List α)
    (s : State) : (l.foldl f s).settingsMem = s.settingsMem := foldl_keeps (·.settingsMem) f h l s

@[simp] theorem atPosition_settingsMem (p : Nat) (f : Record → State → State) (h : ∀ c s, (f c s).settingsMem = s.settingsMem)
    (s : State) : (atPosition p f s).settingsMem = s.settingsMem := atPosition_keeps (·.settingsMem) p f h s

@[simp] theorem foldl_cfg {α : Type} (f : State → α → State) (h : ∀ s a, (f s a).cfg = s.cfg) (l : List α)
    (s : State) : (l.foldl f s).cfg = s.cfg := foldl_keeps (·.cfg) f h l s

@[simp] theorem atPosition_cfg (p : Nat) (f : Record → State → State) (h : ∀ c s, (f c s).cfg = s.cfg)
    (s : State) : (atPosition p f s).cfg = s.cfg := atPosition_keeps (·.cfg) p f h s

@[simp] theorem foldl_bus {α : Type} (f : State → α → State) (h : ∀ s a, (f s a).bus = s.bus) (l : List α)
    (s : State) : (l.foldl f s).bus = s.bus := foldl_keeps (·.bus) f h l s

@[simp] theorem atPosition_bus (p : Nat) (f : Record → State → State) (h : ∀ c s, (f c s).bus = s.bus)
    (s : State) : (atPosition p f s).bus = s.bus := atPosition_keeps (·.bus) p f h s

@[simp] theorem foldl_time {α : Type} (f : State → α → State) (h : ∀ s a, (f s a).time = s.time) (l : List α)
    (s : State) : (l.foldl f s).time = s.time := foldl_keeps (·.time) f h l s

@[simp] theorem atPosition_time (p : Nat) (f : Record → State → State) (h : ∀ c s, (f c s).time = s.time)
    (s : State) : (atPosition p f s).time = s.time := atPosition_keeps (·.time) p f h s

@[simp] theorem foldl_track {α : Type} (f : State → α → State) (h : ∀ s a, (f s a).track = s.track) (l : List α)
    (s : State) : (l.foldl f s).track = s.track := foldl_keeps (·.track) f h l s

@[simp] theorem atPosition_track (p : Nat) (f : Record → State → State) (h : ∀ c s, (f c s).track = s.track)
    (s : State) : (atPosition p f s).track = s.track := atPosition_keeps (·.track) p f h s

@[simp] theorem foldl_cameras {α : Type} (f : State → α → State) (h : ∀ s a, (f s a).cameras = s.cameras) (l : List α)
    (s : State) : (l.foldl f s).cameras = s.cameras := foldl_keeps (·.cameras) f h l s

@[simp] theorem atPosition_cameras (p : Nat) (f : Record → State → State) (h : ∀ c s, (f c s).cameras = s.cameras)
    (s : State) : (atPosition p f s).cameras = s.cameras := atPosition_keeps (·.cameras) p f h s

@[simp] theorem foldl_reject {α : Type} (f : State → α → State) (h : ∀ s a, (f s a).reject = s.reject) (l : List α)
    (s : State) : (l.foldl f s).reject = s.reject := foldl_keeps (·.reject) f h l s

@[simp] theorem atPosition_reject (p : Nat) (f : Record → State → State) (h : ∀ c s, (f c s).reject = s.reject)
    (s : State) : (atPosition p f s).reject = s.reject := atPosition_keeps (·.reject) p f h s

@[simp] theorem foldl_robots {α : Type} (f : State → α → State) (h : ∀ s a, (f s a).robots = s.robots) (l : List α)
    (s : State) : (l.foldl f s).robots = s.robots := foldl_keeps (·.robots) f h l s

@[simp] theorem atPosition_robots (p : Nat) (f : Record → State → State) (h : ∀ c s, (f c s).robots = s.robots)
    (s : State) : (atPosition p f s).robots = s.robots := atPosition_keeps (·.robots) p f h s

@[simp] theorem foldl_engine {α : Type} (f : State → α → State) (h : ∀ s a, (f s a).engine = s.engine) (l : List α)
    (s : State) : (l.foldl f s).engine = s.engine := foldl_keeps (·.engine) f h l s

@[simp] theorem atPosition_engine (p : Nat) (f : Record → State → State) (h : ∀ c s, (f c s).engine = s.engine)
    (s : State) : (atPosition p f s).engine = s.engine := atPosition_keeps (·.engine) p f h s

@[simp] theorem foldl_field {α : Type} (f : State → α → State) (h : ∀ s a, (f s a).field = s.field) (l : List α)
    (s : State) : (l.foldl f s).field = s.field := foldl_keeps (·.field) f h l s

@[simp] theorem atPosition_field (p : Nat) (f : Record → State → State) (h : ∀ c s, (f c s).field = s.field)
    (s : State) : (atPosition p f s).field = s.field := atPosition_keeps (·.field) p f h s

@[simp] theorem foldl_grant {α : Type} (f : State → α → State) (h : ∀ s a, (f s a).grant = s.grant) (l : List α)
    (s : State) : (l.foldl f s).grant = s.grant := foldl_keeps (·.grant) f h l s

@[simp] theorem atPosition_grant (p : Nat) (f : Record → State → State) (h : ∀ c s, (f c s).grant = s.grant)
    (s : State) : (atPosition p f s).grant = s.grant := atPosition_keeps (·.grant) p f h s

@[simp] theorem foldl_switch {α : Type} (f : State → α → State) (h : ∀ s a, (f s a).switch = s.switch) (l : List α)
    (s : State) : (l.foldl f s).switch = s.switch := foldl_keeps (·.switch) f h l s

@[simp] theorem atPosition_switch (p : Nat) (f : Record → State → State) (h : ∀ c s, (f c s).switch = s.switch)
    (s : State) : (atPosition p f s).switch = s.switch := atPosition_keeps (·.switch) p f h s

@[simp] theorem foldl_lines {α : Type} (f : State → α → State) (h : ∀ s a, (f s a).lines = s.lines) (l : List α)
    (s : State) : (l.foldl f s).lines = s.lines := foldl_keeps (·.lines) f h l s

@[simp] theorem atPosition_lines (p : Nat) (f : Record → State → State) (h : ∀ c s, (f c s).lines = s.lines)
    (s : State) : (atPosition p f s).lines = s.lines := atPosition_keeps (·.lines) p f h s

@[simp] theorem foldl_notice {α : Type} (f : State → α → State) (h : ∀ s a, (f s a).notice = s.notice) (l : List α)
    (s : State) : (l.foldl f s).notice = s.notice := foldl_keeps (·.notice) f h l s

@[simp] theorem atPosition_notice (p : Nat) (f : Record → State → State) (h : ∀ c s, (f c s).notice = s.notice)
    (s : State) : (atPosition p f s).notice = s.notice := atPosition_keeps (·.notice) p f h s

@[simp] theorem foldl_writer {α : Type} (f : State → α → State) (h : ∀ s a, (f s a).writer = s.writer) (l : List α)
    (s : State) : (l.foldl f s).writer = s.writer := foldl_keeps (·.writer) f h l s

@[simp] theorem atPosition_writer (p : Nat) (f : Record → State → State) (h : ∀ c s, (f c s).writer = s.writer)
    (s : State) : (atPosition p f s).writer = s.writer := atPosition_keeps (·.writer) p f h s

@[simp] theorem foldl_loader {α : Type} (f : State → α → State) (h : ∀ s a, (f s a).loader = s.loader) (l : List α)
    (s : State) : (l.foldl f s).loader = s.loader := foldl_keeps (·.loader) f h l s

@[simp] theorem atPosition_loader (p : Nat) (f : Record → State → State) (h : ∀ c s, (f c s).loader = s.loader)
    (s : State) : (atPosition p f s).loader = s.loader := atPosition_keeps (·.loader) p f h s

end Sys2Proof.Machine
end

