-- ==== Sys2Proof/Laws/FramesShared.lean ====
section
/-! SUPPORT. Frames: for each operation of the shared operations, the Reject Unit and the Camera Unit, every field of State it leaves alone. -/

namespace Sys2Proof.Machine

open Sys2Proof

@[simp] theorem ask_frame (m : Mirror) (s : State) :
    let t := ask m s
    t.pending = s.pending ∧ t.free = s.free ∧ t.sram = s.sram ∧ t.settingsMem = s.settingsMem ∧ t.cfg = s.cfg ∧
      t.bus = s.bus ∧ t.time = s.time ∧ t.track = s.track ∧ t.cameras = s.cameras ∧ t.reject = s.reject ∧
      t.robots = s.robots ∧ t.engine = s.engine ∧ t.field = s.field ∧ t.grant = s.grant ∧ t.switch = s.switch ∧
      t.lines = s.lines ∧ t.notice = s.notice ∧ t.loader = s.loader := by
  simp only [ask]
  repeat' split
  all_goals simp

@[simp] theorem askAll_frame (ms : List Mirror) (s : State) :
    let t := askAll ms s
    t.pending = s.pending ∧ t.free = s.free ∧ t.sram = s.sram ∧ t.settingsMem = s.settingsMem ∧ t.cfg = s.cfg ∧
      t.bus = s.bus ∧ t.time = s.time ∧ t.track = s.track ∧ t.cameras = s.cameras ∧ t.reject = s.reject ∧
      t.robots = s.robots ∧ t.engine = s.engine ∧ t.field = s.field ∧ t.grant = s.grant ∧ t.switch = s.switch ∧
      t.lines = s.lines ∧ t.notice = s.notice ∧ t.loader = s.loader := by
  simp only [askAll]
  repeat' split
  all_goals simp

@[simp] theorem rewriteMirror_frame (m : Mirror) (s : State) :
    let t := rewriteMirror m s
    t.pending = s.pending ∧ t.free = s.free ∧ t.sram = s.sram ∧ t.settingsMem = s.settingsMem ∧ t.cfg = s.cfg ∧
      t.bus = s.bus ∧ t.time = s.time ∧ t.track = s.track ∧ t.cameras = s.cameras ∧ t.reject = s.reject ∧
      t.robots = s.robots ∧ t.engine = s.engine ∧ t.field = s.field ∧ t.grant = s.grant ∧ t.switch = s.switch ∧
      t.lines = s.lines ∧ t.notice = s.notice ∧ t.loader = s.loader := by
  simp only [rewriteMirror]
  repeat' split
  all_goals simp

@[simp] theorem rewriteAll_frame (ms : List Mirror) (s : State) :
    let t := rewriteAll ms s
    t.pending = s.pending ∧ t.free = s.free ∧ t.sram = s.sram ∧ t.settingsMem = s.settingsMem ∧ t.cfg = s.cfg ∧
      t.bus = s.bus ∧ t.time = s.time ∧ t.track = s.track ∧ t.cameras = s.cameras ∧ t.reject = s.reject ∧
      t.robots = s.robots ∧ t.engine = s.engine ∧ t.field = s.field ∧ t.grant = s.grant ∧ t.switch = s.switch ∧
      t.lines = s.lines ∧ t.notice = s.notice ∧ t.loader = s.loader := by
  simp only [rewriteAll]
  repeat' split
  all_goals simp

@[simp] theorem askCapture_frame (s : State) :
    let t := askCapture s
    t.pending = s.pending ∧ t.free = s.free ∧ t.sram = s.sram ∧ t.settingsMem = s.settingsMem ∧ t.cfg = s.cfg ∧
      t.bus = s.bus ∧ t.time = s.time ∧ t.track = s.track ∧ t.cameras = s.cameras ∧ t.reject = s.reject ∧
      t.robots = s.robots ∧ t.engine = s.engine ∧ t.field = s.field ∧ t.grant = s.grant ∧ t.switch = s.switch ∧
      t.lines = s.lines ∧ t.notice = s.notice ∧ t.loader = s.loader := by
  simp only [askCapture]
  repeat' split
  all_goals simp

@[simp] theorem appendAt_frame (k : EventKind) (subject : Word) (t : Time) (q : TimeState) (d1 d2 : Word) (s : State) :
    let t := appendAt k subject t q d1 d2 s
    t.pending = s.pending ∧ t.free = s.free ∧ t.sram = s.sram ∧ t.settingsMem = s.settingsMem ∧ t.cfg = s.cfg ∧
      t.bus = s.bus ∧ t.time = s.time ∧ t.track = s.track ∧ t.cameras = s.cameras ∧ t.reject = s.reject ∧
      t.robots = s.robots ∧ t.engine = s.engine ∧ t.field = s.field ∧ t.grant = s.grant ∧ t.switch = s.switch ∧
      t.lines = s.lines ∧ t.loader = s.loader := by
  simp only [appendAt]
  repeat' split
  all_goals simp

@[simp] theorem append_frame (k : EventKind) (subject : Word) (d1 d2 : Word) (s : State) :
    let t := append k subject d1 d2 s
    t.pending = s.pending ∧ t.free = s.free ∧ t.sram = s.sram ∧ t.settingsMem = s.settingsMem ∧ t.cfg = s.cfg ∧
      t.bus = s.bus ∧ t.time = s.time ∧ t.track = s.track ∧ t.cameras = s.cameras ∧ t.reject = s.reject ∧
      t.robots = s.robots ∧ t.engine = s.engine ∧ t.field = s.field ∧ t.grant = s.grant ∧ t.switch = s.switch ∧
      t.lines = s.lines ∧ t.loader = s.loader := by
  simp only [append]
  repeat' split
  all_goals simp

@[simp] theorem ignoreEvent_frame (i : Fin 26) (reason second : Word) (s : State) :
    let t := ignoreEvent i reason second s
    t.pending = s.pending ∧ t.free = s.free ∧ t.sram = s.sram ∧ t.settingsMem = s.settingsMem ∧ t.cfg = s.cfg ∧
      t.bus = s.bus ∧ t.time = s.time ∧ t.track = s.track ∧ t.cameras = s.cameras ∧ t.reject = s.reject ∧
      t.robots = s.robots ∧ t.engine = s.engine ∧ t.field = s.field ∧ t.grant = s.grant ∧ t.switch = s.switch ∧
      t.lines = s.lines ∧ t.loader = s.loader := by
  simp only [ignoreEvent]
  repeat' split
  all_goals simp

@[simp] theorem refreshHandover_frame (r : Fin 8) (s : State) :
    let t := refreshHandover r s
    t.pending = s.pending ∧ t.free = s.free ∧ t.sram = s.sram ∧ t.settingsMem = s.settingsMem ∧ t.cfg = s.cfg ∧
      t.bus = s.bus ∧ t.time = s.time ∧ t.track = s.track ∧ t.cameras = s.cameras ∧ t.reject = s.reject ∧
      t.robots = s.robots ∧ t.engine = s.engine ∧ t.field = s.field ∧ t.grant = s.grant ∧ t.switch = s.switch ∧
      t.lines = s.lines ∧ t.writer = s.writer ∧ t.loader = s.loader := by
  simp only [refreshHandover]
  repeat' split
  all_goals simp

@[simp] theorem ejectFault_frame (cause : Word) (q : Seq) (s : State) :
    let t := ejectFault cause q s
    t.pending = s.pending ∧ t.free = s.free ∧ t.sram = s.sram ∧ t.settingsMem = s.settingsMem ∧ t.cfg = s.cfg ∧
      t.bus = s.bus ∧ t.time = s.time ∧ t.track = s.track ∧ t.cameras = s.cameras ∧ t.reject = s.reject ∧
      t.robots = s.robots ∧ t.engine = s.engine ∧ t.field = s.field ∧ t.grant = s.grant ∧ t.switch = s.switch ∧
      t.lines = s.lines ∧ t.loader = s.loader := by
  simp only [ejectFault]
  repeat' split
  all_goals simp

@[simp] theorem writeOutcome_frame (c : Record) (s : State) :
    let t := writeOutcome c s
    t.pending = s.pending ∧ t.free = s.free ∧ t.sram = s.sram ∧ t.settingsMem = s.settingsMem ∧ t.cfg = s.cfg ∧
      t.bus = s.bus ∧ t.time = s.time ∧ t.track = s.track ∧ t.cameras = s.cameras ∧ t.robots = s.robots ∧
      t.engine = s.engine ∧ t.field = s.field ∧ t.grant = s.grant ∧ t.switch = s.switch ∧ t.lines = s.lines ∧
      t.loader = s.loader := by
  simp only [writeOutcome]
  repeat' split
  all_goals simp

@[simp] theorem drainFrom_frame (l : List Record) (s : State) :
    let t := drainFrom l s
    t.pending = s.pending ∧ t.free = s.free ∧ t.sram = s.sram ∧ t.settingsMem = s.settingsMem ∧ t.cfg = s.cfg ∧
      t.bus = s.bus ∧ t.time = s.time ∧ t.track = s.track ∧ t.cameras = s.cameras ∧ t.robots = s.robots ∧
      t.engine = s.engine ∧ t.field = s.field ∧ t.grant = s.grant ∧ t.switch = s.switch ∧ t.lines = s.lines ∧
      t.loader = s.loader := by
  induction l generalizing s with
  | nil => simp [drainFrom]
  | cons c cs ih =>
    simp only [drainFrom]
    split
    · simp [ih]
    · simp

@[simp] theorem drainExit_frame (s : State) :
    let t := drainExit s
    t.pending = s.pending ∧ t.free = s.free ∧ t.sram = s.sram ∧ t.settingsMem = s.settingsMem ∧ t.cfg = s.cfg ∧
      t.bus = s.bus ∧ t.time = s.time ∧ t.track = s.track ∧ t.cameras = s.cameras ∧ t.robots = s.robots ∧
      t.engine = s.engine ∧ t.field = s.field ∧ t.grant = s.grant ∧ t.switch = s.switch ∧ t.lines = s.lines ∧
      t.loader = s.loader := by
  simp only [drainExit]
  repeat' split
  all_goals simp

@[simp] theorem unwatch_frame (q : Seq) (s : State) :
    let t := unwatch q s
    t.pending = s.pending ∧ t.free = s.free ∧ t.sram = s.sram ∧ t.settingsMem = s.settingsMem ∧ t.cfg = s.cfg ∧
      t.bus = s.bus ∧ t.time = s.time ∧ t.cameras = s.cameras ∧ t.robots = s.robots ∧ t.engine = s.engine ∧
      t.field = s.field ∧ t.grant = s.grant ∧ t.switch = s.switch ∧ t.lines = s.lines ∧ t.loader = s.loader := by
  simp only [unwatch]
  repeat' split
  all_goals simp

@[simp] theorem joinExit_frame (c : Record) (s : State) :
    let t := joinExit c s
    t.pending = s.pending ∧ t.free = s.free ∧ t.sram = s.sram ∧ t.settingsMem = s.settingsMem ∧ t.cfg = s.cfg ∧
      t.bus = s.bus ∧ t.time = s.time ∧ t.cameras = s.cameras ∧ t.robots = s.robots ∧ t.engine = s.engine ∧
      t.field = s.field ∧ t.grant = s.grant ∧ t.switch = s.switch ∧ t.lines = s.lines ∧ t.loader = s.loader := by
  simp only [joinExit]
  repeat' split
  all_goals simp

@[simp] theorem joinList_frame (e : EjectEntry) (s : State) :
    let t := joinList e s
    t.pending = s.pending ∧ t.free = s.free ∧ t.sram = s.sram ∧ t.settingsMem = s.settingsMem ∧ t.cfg = s.cfg ∧
      t.bus = s.bus ∧ t.time = s.time ∧ t.cameras = s.cameras ∧ t.robots = s.robots ∧ t.engine = s.engine ∧
      t.field = s.field ∧ t.grant = s.grant ∧ t.switch = s.switch ∧ t.lines = s.lines ∧ t.loader = s.loader := by
  simp only [joinList]
  repeat' split
  all_goals simp

@[simp] theorem extendPulse_frame (s : State) :
    let t := extendPulse s
    t.pending = s.pending ∧ t.free = s.free ∧ t.sram = s.sram ∧ t.settingsMem = s.settingsMem ∧ t.cfg = s.cfg ∧
      t.bus = s.bus ∧ t.time = s.time ∧ t.track = s.track ∧ t.cameras = s.cameras ∧ t.robots = s.robots ∧
      t.engine = s.engine ∧ t.field = s.field ∧ t.grant = s.grant ∧ t.switch = s.switch ∧ t.lines = s.lines ∧
      t.notice = s.notice ∧ t.writer = s.writer ∧ t.loader = s.loader := by
  simp only [extendPulse]
  repeat' split
  all_goals simp

@[simp] theorem fire_frame (k : FireKind) (q : Seq) (s : State) :
    let t := fire k q s
    t.pending = s.pending ∧ t.free = s.free ∧ t.sram = s.sram ∧ t.settingsMem = s.settingsMem ∧ t.cfg = s.cfg ∧
      t.bus = s.bus ∧ t.time = s.time ∧ t.cameras = s.cameras ∧ t.robots = s.robots ∧ t.engine = s.engine ∧
      t.field = s.field ∧ t.grant = s.grant ∧ t.switch = s.switch ∧ t.lines = s.lines ∧ t.loader = s.loader := by
  simp only [fire]
  repeat' split
  all_goals simp

@[simp] theorem missEjection_frame (q : Seq) (s : State) :
    let t := missEjection q s
    t.pending = s.pending ∧ t.free = s.free ∧ t.sram = s.sram ∧ t.settingsMem = s.settingsMem ∧ t.cfg = s.cfg ∧
      t.bus = s.bus ∧ t.time = s.time ∧ t.cameras = s.cameras ∧ t.robots = s.robots ∧ t.engine = s.engine ∧
      t.field = s.field ∧ t.grant = s.grant ∧ t.switch = s.switch ∧ t.lines = s.lines ∧ t.loader = s.loader := by
  simp only [missEjection]
  repeat' split
  all_goals simp

@[simp] theorem decideRecord_frame (c : Record) (s : State) :
    let t := decideRecord c s
    t.pending = s.pending ∧ t.free = s.free ∧ t.sram = s.sram ∧ t.settingsMem = s.settingsMem ∧ t.cfg = s.cfg ∧
      t.bus = s.bus ∧ t.time = s.time ∧ t.cameras = s.cameras ∧ t.robots = s.robots ∧ t.engine = s.engine ∧
      t.field = s.field ∧ t.grant = s.grant ∧ t.switch = s.switch ∧ t.lines = s.lines ∧ t.notice = s.notice ∧
      t.writer = s.writer ∧ t.loader = s.loader := by
  simp only [decideRecord]
  repeat' split
  all_goals simp

@[simp] theorem armRecord_frame (t : Time) (c : Record) (s : State) :
    let t := armRecord t c s
    t.pending = s.pending ∧ t.free = s.free ∧ t.sram = s.sram ∧ t.settingsMem = s.settingsMem ∧ t.cfg = s.cfg ∧
      t.bus = s.bus ∧ t.time = s.time ∧ t.cameras = s.cameras ∧ t.robots = s.robots ∧ t.engine = s.engine ∧
      t.field = s.field ∧ t.grant = s.grant ∧ t.switch = s.switch ∧ t.lines = s.lines ∧ t.loader = s.loader := by
  simp only [armRecord]
  repeat' split
  all_goals simp

@[simp] theorem reachEjector_frame (t : Time) (c : Record) (s : State) :
    let t := reachEjector t c s
    t.pending = s.pending ∧ t.free = s.free ∧ t.sram = s.sram ∧ t.settingsMem = s.settingsMem ∧ t.cfg = s.cfg ∧
      t.bus = s.bus ∧ t.time = s.time ∧ t.cameras = s.cameras ∧ t.robots = s.robots ∧ t.engine = s.engine ∧
      t.field = s.field ∧ t.grant = s.grant ∧ t.switch = s.switch ∧ t.lines = s.lines ∧ t.loader = s.loader := by
  simp only [reachEjector]
  repeat' split
  all_goals simp

@[simp] theorem leaveEjector_frame (c : Record) (s : State) :
    let t := leaveEjector c s
    t.pending = s.pending ∧ t.free = s.free ∧ t.sram = s.sram ∧ t.settingsMem = s.settingsMem ∧ t.cfg = s.cfg ∧
      t.bus = s.bus ∧ t.time = s.time ∧ t.cameras = s.cameras ∧ t.robots = s.robots ∧ t.engine = s.engine ∧
      t.field = s.field ∧ t.grant = s.grant ∧ t.switch = s.switch ∧ t.lines = s.lines ∧ t.loader = s.loader := by
  simp only [leaveEjector]
  repeat' split
  all_goals simp

@[simp] theorem rejectAtPitch_frame (t : Time) (s : State) :
    let t := rejectAtPitch t s
    t.pending = s.pending ∧ t.free = s.free ∧ t.sram = s.sram ∧ t.settingsMem = s.settingsMem ∧ t.cfg = s.cfg ∧
      t.bus = s.bus ∧ t.time = s.time ∧ t.cameras = s.cameras ∧ t.robots = s.robots ∧ t.engine = s.engine ∧
      t.field = s.field ∧ t.grant = s.grant ∧ t.switch = s.switch ∧ t.lines = s.lines ∧ t.loader = s.loader := by
  simp only [rejectAtPitch]
  and_intros
  · exact (atPosition_keeps (·.pending) _ _ (fun c x => by split <;> simp) _).trans (by simp)
  · exact (atPosition_keeps (·.free) _ _ (fun c x => by split <;> simp) _).trans (by simp)
  · exact (atPosition_keeps (·.sram) _ _ (fun c x => by split <;> simp) _).trans (by simp)
  · exact (atPosition_keeps (·.settingsMem) _ _ (fun c x => by split <;> simp) _).trans (by simp)
  · exact (atPosition_keeps (·.cfg) _ _ (fun c x => by split <;> simp) _).trans (by simp)
  · exact (atPosition_keeps (·.bus) _ _ (fun c x => by split <;> simp) _).trans (by simp)
  · exact (atPosition_keeps (·.time) _ _ (fun c x => by split <;> simp) _).trans (by simp)
  · exact (atPosition_keeps (·.cameras) _ _ (fun c x => by split <;> simp) _).trans (by simp)
  · exact (atPosition_keeps (·.robots) _ _ (fun c x => by split <;> simp) _).trans (by simp)
  · exact (atPosition_keeps (·.engine) _ _ (fun c x => by split <;> simp) _).trans (by simp)
  · exact (atPosition_keeps (·.field) _ _ (fun c x => by split <;> simp) _).trans (by simp)
  · exact (atPosition_keeps (·.grant) _ _ (fun c x => by split <;> simp) _).trans (by simp)
  · exact (atPosition_keeps (·.switch) _ _ (fun c x => by split <;> simp) _).trans (by simp)
  · exact (atPosition_keeps (·.lines) _ _ (fun c x => by split <;> simp) _).trans (by simp)
  · exact (atPosition_keeps (·.loader) _ _ (fun c x => by split <;> simp) _).trans (by simp)

@[simp] theorem confirmAll_frame (l : List EjectEntry) (s : State) :
    let t := confirmAll l s
    t.pending = s.pending ∧ t.free = s.free ∧ t.sram = s.sram ∧ t.settingsMem = s.settingsMem ∧ t.cfg = s.cfg ∧
      t.bus = s.bus ∧ t.time = s.time ∧ t.cameras = s.cameras ∧ t.robots = s.robots ∧ t.engine = s.engine ∧
      t.field = s.field ∧ t.grant = s.grant ∧ t.switch = s.switch ∧ t.lines = s.lines ∧ t.notice = s.notice ∧
      t.writer = s.writer ∧ t.loader = s.loader := by
  induction l generalizing s with
  | nil => simp [confirmAll]
  | cons c cs ih => simp [confirmAll, ih]

@[simp] theorem confirmEdge_frame (s : State) :
    let t := confirmEdge s
    t.pending = s.pending ∧ t.free = s.free ∧ t.sram = s.sram ∧ t.settingsMem = s.settingsMem ∧ t.cfg = s.cfg ∧
      t.bus = s.bus ∧ t.time = s.time ∧ t.cameras = s.cameras ∧ t.robots = s.robots ∧ t.engine = s.engine ∧
      t.field = s.field ∧ t.grant = s.grant ∧ t.switch = s.switch ∧ t.lines = s.lines ∧ t.loader = s.loader := by
  simp only [confirmEdge]
  repeat' split
  all_goals simp

@[simp] theorem confirmTimeout_frame (s : State) :
    let t := confirmTimeout s
    t.pending = s.pending ∧ t.free = s.free ∧ t.sram = s.sram ∧ t.settingsMem = s.settingsMem ∧ t.cfg = s.cfg ∧
      t.bus = s.bus ∧ t.time = s.time ∧ t.cameras = s.cameras ∧ t.robots = s.robots ∧ t.engine = s.engine ∧
      t.field = s.field ∧ t.grant = s.grant ∧ t.switch = s.switch ∧ t.lines = s.lines ∧ t.loader = s.loader := by
  simp only [confirmTimeout]
  repeat' split
  all_goals simp

@[simp] theorem cancelEntry_frame (e : EjectEntry) (s : State) :
    let t := cancelEntry e s
    t.pending = s.pending ∧ t.free = s.free ∧ t.sram = s.sram ∧ t.settingsMem = s.settingsMem ∧ t.cfg = s.cfg ∧
      t.bus = s.bus ∧ t.time = s.time ∧ t.cameras = s.cameras ∧ t.robots = s.robots ∧ t.engine = s.engine ∧
      t.field = s.field ∧ t.grant = s.grant ∧ t.switch = s.switch ∧ t.lines = s.lines ∧ t.loader = s.loader := by
  simp only [cancelEntry]
  repeat' split
  all_goals simp

@[simp] theorem cancelArmed_frame (s : State) :
    let t := cancelArmed s
    t.pending = s.pending ∧ t.free = s.free ∧ t.sram = s.sram ∧ t.settingsMem = s.settingsMem ∧ t.cfg = s.cfg ∧
      t.bus = s.bus ∧ t.time = s.time ∧ t.cameras = s.cameras ∧ t.robots = s.robots ∧ t.engine = s.engine ∧
      t.field = s.field ∧ t.grant = s.grant ∧ t.switch = s.switch ∧ t.lines = s.lines ∧ t.loader = s.loader := by
  simp only [cancelArmed]
  repeat' split
  all_goals simp

@[simp] theorem setPolicy_frame (p : Policy) (cause : Word) (s : State) :
    let t := setPolicy p cause s
    t.pending = s.pending ∧ t.free = s.free ∧ t.sram = s.sram ∧ t.settingsMem = s.settingsMem ∧ t.cfg = s.cfg ∧
      t.bus = s.bus ∧ t.time = s.time ∧ t.track = s.track ∧ t.cameras = s.cameras ∧ t.robots = s.robots ∧
      t.engine = s.engine ∧ t.field = s.field ∧ t.grant = s.grant ∧ t.switch = s.switch ∧ t.lines = s.lines ∧
      t.loader = s.loader := by
  simp only [setPolicy]
  repeat' split
  all_goals simp

@[simp] theorem policyFollowsGrant_frame (s : State) :
    let t := policyFollowsGrant s
    t.pending = s.pending ∧ t.free = s.free ∧ t.sram = s.sram ∧ t.settingsMem = s.settingsMem ∧ t.cfg = s.cfg ∧
      t.bus = s.bus ∧ t.time = s.time ∧ t.track = s.track ∧ t.cameras = s.cameras ∧ t.robots = s.robots ∧
      t.engine = s.engine ∧ t.field = s.field ∧ t.grant = s.grant ∧ t.switch = s.switch ∧ t.lines = s.lines ∧
      t.loader = s.loader := by
  simp only [policyFollowsGrant]
  repeat' split
  all_goals simp

@[simp] theorem cameraFault_frame (c : Fin 4) (cause : Nat) (second : Word) (s : State) :
    let t := cameraFault c cause second s
    t.pending = s.pending ∧ t.free = s.free ∧ t.sram = s.sram ∧ t.settingsMem = s.settingsMem ∧ t.cfg = s.cfg ∧
      t.bus = s.bus ∧ t.time = s.time ∧ t.track = s.track ∧ t.cameras = s.cameras ∧ t.reject = s.reject ∧
      t.robots = s.robots ∧ t.engine = s.engine ∧ t.field = s.field ∧ t.grant = s.grant ∧ t.switch = s.switch ∧
      t.lines = s.lines ∧ t.loader = s.loader := by
  simp only [cameraFault]
  repeat' split
  all_goals simp

@[simp] theorem triggerCamera_frame (c : Fin 4) (g : CameraCfg) (q : Seq) (s : State) :
    let t := triggerCamera c g q s
    t.pending = s.pending ∧ t.free = s.free ∧ t.sram = s.sram ∧ t.settingsMem = s.settingsMem ∧ t.cfg = s.cfg ∧
      t.bus = s.bus ∧ t.time = s.time ∧ t.robots = s.robots ∧ t.engine = s.engine ∧ t.field = s.field ∧
      t.grant = s.grant ∧ t.switch = s.switch ∧ t.lines = s.lines ∧ t.notice = s.notice ∧
      t.loader = s.loader := by
  simp only [triggerCamera]
  repeat' split
  all_goals simp

@[simp] theorem skipTrigger_frame (c : Fin 4) (q : Seq) (s : State) :
    let t := skipTrigger c q s
    t.pending = s.pending ∧ t.free = s.free ∧ t.sram = s.sram ∧ t.settingsMem = s.settingsMem ∧ t.cfg = s.cfg ∧
      t.bus = s.bus ∧ t.time = s.time ∧ t.robots = s.robots ∧ t.engine = s.engine ∧ t.field = s.field ∧
      t.grant = s.grant ∧ t.switch = s.switch ∧ t.lines = s.lines ∧ t.loader = s.loader := by
  simp only [skipTrigger]
  repeat' split
  all_goals simp

@[simp] theorem cameraAtPitch_frame (c : Fin 4) (s : State) :
    let t := cameraAtPitch c s
    t.pending = s.pending ∧ t.free = s.free ∧ t.sram = s.sram ∧ t.settingsMem = s.settingsMem ∧ t.cfg = s.cfg ∧
      t.bus = s.bus ∧ t.time = s.time ∧ t.robots = s.robots ∧ t.engine = s.engine ∧ t.field = s.field ∧
      t.grant = s.grant ∧ t.switch = s.switch ∧ t.lines = s.lines ∧ t.loader = s.loader := by
  simp only [cameraAtPitch]
  repeat' split
  all_goals simp

@[simp] theorem expireSlot_frame (c : Fin 4) (r : Record) (s : State) :
    let t := expireSlot c r s
    t.pending = s.pending ∧ t.free = s.free ∧ t.sram = s.sram ∧ t.settingsMem = s.settingsMem ∧ t.cfg = s.cfg ∧
      t.bus = s.bus ∧ t.time = s.time ∧ t.robots = s.robots ∧ t.engine = s.engine ∧ t.field = s.field ∧
      t.grant = s.grant ∧ t.switch = s.switch ∧ t.lines = s.lines ∧ t.loader = s.loader := by
  simp only [expireSlot]
  repeat' split
  all_goals simp

@[simp] theorem expireAtDecision_frame (s : State) :
    let t := expireAtDecision s
    t.pending = s.pending ∧ t.free = s.free ∧ t.sram = s.sram ∧ t.settingsMem = s.settingsMem ∧ t.cfg = s.cfg ∧
      t.bus = s.bus ∧ t.time = s.time ∧ t.robots = s.robots ∧ t.engine = s.engine ∧ t.field = s.field ∧
      t.grant = s.grant ∧ t.switch = s.switch ∧ t.lines = s.lines ∧ t.loader = s.loader := by
  simp only [expireAtDecision]
  repeat' split
  all_goals simp

@[simp] theorem camerasAtPitch_frame (s : State) :
    let t := camerasAtPitch s
    t.pending = s.pending ∧ t.free = s.free ∧ t.sram = s.sram ∧ t.settingsMem = s.settingsMem ∧ t.cfg = s.cfg ∧
      t.bus = s.bus ∧ t.time = s.time ∧ t.robots = s.robots ∧ t.engine = s.engine ∧ t.field = s.field ∧
      t.grant = s.grant ∧ t.switch = s.switch ∧ t.lines = s.lines ∧ t.loader = s.loader := by
  simp only [camerasAtPitch]
  repeat' split
  all_goals simp

@[simp] theorem judgeVerdict_frame (c : Fin 4) (body : List Byte) (s : State) :
    let t := judgeVerdict c body s
    t.pending = s.pending ∧ t.free = s.free ∧ t.sram = s.sram ∧ t.settingsMem = s.settingsMem ∧ t.cfg = s.cfg ∧
      t.bus = s.bus ∧ t.time = s.time ∧ t.robots = s.robots ∧ t.engine = s.engine ∧ t.field = s.field ∧
      t.grant = s.grant ∧ t.switch = s.switch ∧ t.lines = s.lines ∧ t.loader = s.loader := by
  simp only [judgeVerdict]
  repeat' split
  all_goals simp

@[simp] theorem acceptVerdict_frame (c : Fin 4) (body : List Byte) (s : State) :
    let t := acceptVerdict c body s
    t.pending = s.pending ∧ t.free = s.free ∧ t.sram = s.sram ∧ t.settingsMem = s.settingsMem ∧ t.cfg = s.cfg ∧
      t.bus = s.bus ∧ t.time = s.time ∧ t.robots = s.robots ∧ t.engine = s.engine ∧ t.field = s.field ∧
      t.grant = s.grant ∧ t.switch = s.switch ∧ t.lines = s.lines ∧ t.loader = s.loader := by
  simp only [acceptVerdict]
  repeat' split
  all_goals simp

end Sys2Proof.Machine
end

