-- ==== Sys2Proof/Laws/FramesTracking.lean ====
section
/-! SUPPORT. Frames: for each operation of the Tracking Unit and the output banks, every field of State it leaves alone. -/

namespace Sys2Proof.Machine

open Sys2Proof

@[simp] theorem markSuspect_frame (s : State) :
    let t := markSuspect s
    t.pending = s.pending ∧ t.free = s.free ∧ t.sram = s.sram ∧ t.settingsMem = s.settingsMem ∧ t.cfg = s.cfg ∧
      t.bus = s.bus ∧ t.time = s.time ∧ t.cameras = s.cameras ∧ t.reject = s.reject ∧ t.robots = s.robots ∧
      t.engine = s.engine ∧ t.field = s.field ∧ t.grant = s.grant ∧ t.switch = s.switch ∧ t.lines = s.lines ∧
      t.notice = s.notice ∧ t.writer = s.writer ∧ t.loader = s.loader := by
  simp only [markSuspect]
  repeat' split
  all_goals simp

@[simp] theorem askEncoderLines_frame (s : State) :
    let t := askEncoderLines s
    t.pending = s.pending ∧ t.free = s.free ∧ t.sram = s.sram ∧ t.settingsMem = s.settingsMem ∧ t.cfg = s.cfg ∧
      t.bus = s.bus ∧ t.time = s.time ∧ t.track = s.track ∧ t.cameras = s.cameras ∧ t.reject = s.reject ∧
      t.robots = s.robots ∧ t.engine = s.engine ∧ t.field = s.field ∧ t.grant = s.grant ∧ t.switch = s.switch ∧
      t.lines = s.lines ∧ t.notice = s.notice ∧ t.loader = s.loader := by
  simp only [askEncoderLines]
  repeat' split
  all_goals simp

@[simp] theorem setRunning_frame (b : Bool) (second : Word) (s : State) :
    let t := setRunning b second s
    t.pending = s.pending ∧ t.free = s.free ∧ t.sram = s.sram ∧ t.settingsMem = s.settingsMem ∧ t.cfg = s.cfg ∧
      t.bus = s.bus ∧ t.time = s.time ∧ t.cameras = s.cameras ∧ t.reject = s.reject ∧ t.robots = s.robots ∧
      t.engine = s.engine ∧ t.field = s.field ∧ t.grant = s.grant ∧ t.switch = s.switch ∧ t.lines = s.lines ∧
      t.loader = s.loader := by
  simp only [setRunning]
  repeat' split
  all_goals simp

@[simp] theorem lineStops_frame (s : State) :
    let t := lineStops s
    t.pending = s.pending ∧ t.free = s.free ∧ t.sram = s.sram ∧ t.settingsMem = s.settingsMem ∧ t.cfg = s.cfg ∧
      t.bus = s.bus ∧ t.time = s.time ∧ t.cameras = s.cameras ∧ t.robots = s.robots ∧ t.engine = s.engine ∧
      t.field = s.field ∧ t.grant = s.grant ∧ t.switch = s.switch ∧ t.lines = s.lines ∧ t.loader = s.loader := by
  simp only [lineStops]
  repeat' split
  all_goals simp

@[simp] theorem measure_frame (s : State) :
    let t := measure s
    t.pending = s.pending ∧ t.free = s.free ∧ t.sram = s.sram ∧ t.settingsMem = s.settingsMem ∧ t.cfg = s.cfg ∧
      t.bus = s.bus ∧ t.time = s.time ∧ t.cameras = s.cameras ∧ t.reject = s.reject ∧ t.robots = s.robots ∧
      t.engine = s.engine ∧ t.field = s.field ∧ t.grant = s.grant ∧ t.switch = s.switch ∧ t.lines = s.lines ∧
      t.notice = s.notice ∧ t.writer = s.writer ∧ t.loader = s.loader := by
  simp only [measure]
  repeat' split
  all_goals simp

@[simp] theorem runAtPitch_frame (s : State) :
    let t := runAtPitch s
    t.pending = s.pending ∧ t.free = s.free ∧ t.sram = s.sram ∧ t.settingsMem = s.settingsMem ∧ t.cfg = s.cfg ∧
      t.bus = s.bus ∧ t.time = s.time ∧ t.cameras = s.cameras ∧ t.reject = s.reject ∧ t.robots = s.robots ∧
      t.engine = s.engine ∧ t.field = s.field ∧ t.grant = s.grant ∧ t.switch = s.switch ∧ t.lines = s.lines ∧
      t.loader = s.loader := by
  simp only [runAtPitch]
  repeat' split
  all_goals simp

@[simp] theorem restartStop_frame (s : State) :
    let t := restartStop s
    t.pending = s.pending ∧ t.free = s.free ∧ t.sram = s.sram ∧ t.settingsMem = s.settingsMem ∧ t.cfg = s.cfg ∧
      t.bus = s.bus ∧ t.time = s.time ∧ t.cameras = s.cameras ∧ t.reject = s.reject ∧ t.robots = s.robots ∧
      t.engine = s.engine ∧ t.field = s.field ∧ t.grant = s.grant ∧ t.switch = s.switch ∧ t.lines = s.lines ∧
      t.notice = s.notice ∧ t.writer = s.writer ∧ t.loader = s.loader := by
  simp only [restartStop]
  repeat' split
  all_goals simp

@[simp] theorem moveRing_frame (s : State) :
    let t := moveRing s
    t.pending = s.pending ∧ t.free = s.free ∧ t.sram = s.sram ∧ t.settingsMem = s.settingsMem ∧ t.cfg = s.cfg ∧
      t.bus = s.bus ∧ t.time = s.time ∧ t.cameras = s.cameras ∧ t.reject = s.reject ∧ t.robots = s.robots ∧
      t.engine = s.engine ∧ t.field = s.field ∧ t.grant = s.grant ∧ t.switch = s.switch ∧ t.lines = s.lines ∧
      t.notice = s.notice ∧ t.writer = s.writer ∧ t.loader = s.loader := by
  simp only [moveRing]
  repeat' split
  all_goals simp

@[simp] theorem exitLast_frame (s : State) :
    let t := exitLast s
    t.pending = s.pending ∧ t.free = s.free ∧ t.sram = s.sram ∧ t.settingsMem = s.settingsMem ∧ t.cfg = s.cfg ∧
      t.bus = s.bus ∧ t.time = s.time ∧ t.cameras = s.cameras ∧ t.robots = s.robots ∧ t.engine = s.engine ∧
      t.field = s.field ∧ t.grant = s.grant ∧ t.switch = s.switch ∧ t.lines = s.lines ∧ t.loader = s.loader := by
  simp only [exitLast]
  repeat' split
  all_goals simp

@[simp] theorem announce_frame (r : Fin 8) (c : Record) (s : State) :
    let t := announce r c s
    t.pending = s.pending ∧ t.free = s.free ∧ t.sram = s.sram ∧ t.settingsMem = s.settingsMem ∧ t.cfg = s.cfg ∧
      t.bus = s.bus ∧ t.time = s.time ∧ t.cameras = s.cameras ∧ t.robots = s.robots ∧ t.engine = s.engine ∧
      t.field = s.field ∧ t.grant = s.grant ∧ t.switch = s.switch ∧ t.lines = s.lines ∧ t.notice = s.notice ∧
      t.writer = s.writer ∧ t.loader = s.loader := by
  simp only [announce]
  repeat' split
  all_goals simp

@[simp] theorem stationMark_frame (r : Fin 8) (s : State) :
    let t := stationMark r s
    t.pending = s.pending ∧ t.free = s.free ∧ t.sram = s.sram ∧ t.settingsMem = s.settingsMem ∧ t.cfg = s.cfg ∧
      t.bus = s.bus ∧ t.time = s.time ∧ t.cameras = s.cameras ∧ t.robots = s.robots ∧ t.engine = s.engine ∧
      t.field = s.field ∧ t.grant = s.grant ∧ t.switch = s.switch ∧ t.lines = s.lines ∧ t.notice = s.notice ∧
      t.writer = s.writer ∧ t.loader = s.loader := by
  simp only [stationMark]
  repeat' split
  all_goals simp

@[simp] theorem windowMark_frame (r : Fin 8) (s : State) :
    let t := windowMark r s
    t.pending = s.pending ∧ t.free = s.free ∧ t.sram = s.sram ∧ t.settingsMem = s.settingsMem ∧ t.cfg = s.cfg ∧
      t.bus = s.bus ∧ t.time = s.time ∧ t.cameras = s.cameras ∧ t.robots = s.robots ∧ t.engine = s.engine ∧
      t.field = s.field ∧ t.grant = s.grant ∧ t.switch = s.switch ∧ t.lines = s.lines ∧ t.notice = s.notice ∧
      t.writer = s.writer ∧ t.loader = s.loader := by
  simp only [windowMark]
  repeat' split
  all_goals simp

@[simp] theorem stationMarks_frame (s : State) :
    let t := stationMarks s
    t.pending = s.pending ∧ t.free = s.free ∧ t.sram = s.sram ∧ t.settingsMem = s.settingsMem ∧ t.cfg = s.cfg ∧
      t.bus = s.bus ∧ t.time = s.time ∧ t.cameras = s.cameras ∧ t.robots = s.robots ∧ t.engine = s.engine ∧
      t.field = s.field ∧ t.grant = s.grant ∧ t.switch = s.switch ∧ t.lines = s.lines ∧ t.notice = s.notice ∧
      t.writer = s.writer ∧ t.loader = s.loader := by
  simp only [stationMarks]
  repeat' split
  all_goals simp

@[simp] theorem dropAnnounce_frame (a : Announce) (s : State) :
    let t := dropAnnounce a s
    t.pending = s.pending ∧ t.free = s.free ∧ t.sram = s.sram ∧ t.settingsMem = s.settingsMem ∧ t.cfg = s.cfg ∧
      t.bus = s.bus ∧ t.time = s.time ∧ t.cameras = s.cameras ∧ t.robots = s.robots ∧ t.engine = s.engine ∧
      t.field = s.field ∧ t.grant = s.grant ∧ t.switch = s.switch ∧ t.lines = s.lines ∧ t.notice = s.notice ∧
      t.writer = s.writer ∧ t.loader = s.loader := by
  simp only [dropAnnounce]
  repeat' split
  all_goals simp

@[simp] theorem emptyQueue_frame (r : Fin 8) (s : State) :
    let t := emptyQueue r s
    t.pending = s.pending ∧ t.free = s.free ∧ t.sram = s.sram ∧ t.settingsMem = s.settingsMem ∧ t.cfg = s.cfg ∧
      t.bus = s.bus ∧ t.time = s.time ∧ t.cameras = s.cameras ∧ t.robots = s.robots ∧ t.engine = s.engine ∧
      t.field = s.field ∧ t.grant = s.grant ∧ t.switch = s.switch ∧ t.lines = s.lines ∧ t.notice = s.notice ∧
      t.writer = s.writer ∧ t.loader = s.loader := by
  simp only [emptyQueue]
  repeat' split
  all_goals simp

@[simp] theorem pitchEvent_frame (s : State) :
    let t := pitchEvent s
    t.pending = s.pending ∧ t.free = s.free ∧ t.sram = s.sram ∧ t.settingsMem = s.settingsMem ∧ t.cfg = s.cfg ∧
      t.bus = s.bus ∧ t.time = s.time ∧ t.robots = s.robots ∧ t.engine = s.engine ∧ t.field = s.field ∧
      t.grant = s.grant ∧ t.switch = s.switch ∧ t.lines = s.lines ∧ t.loader = s.loader := by
  simp only [pitchEvent]
  repeat' split
  all_goals simp

@[simp] theorem forwardCount_frame (s : State) :
    let t := forwardCount s
    t.pending = s.pending ∧ t.free = s.free ∧ t.sram = s.sram ∧ t.settingsMem = s.settingsMem ∧ t.cfg = s.cfg ∧
      t.bus = s.bus ∧ t.time = s.time ∧ t.robots = s.robots ∧ t.engine = s.engine ∧ t.field = s.field ∧
      t.grant = s.grant ∧ t.switch = s.switch ∧ t.lines = s.lines ∧ t.loader = s.loader := by
  simp only [forwardCount]
  repeat' split
  all_goals simp

@[simp] theorem reverseCount_frame (s : State) :
    let t := reverseCount s
    t.pending = s.pending ∧ t.free = s.free ∧ t.sram = s.sram ∧ t.settingsMem = s.settingsMem ∧ t.cfg = s.cfg ∧
      t.bus = s.bus ∧ t.time = s.time ∧ t.cameras = s.cameras ∧ t.reject = s.reject ∧ t.robots = s.robots ∧
      t.engine = s.engine ∧ t.field = s.field ∧ t.grant = s.grant ∧ t.switch = s.switch ∧ t.lines = s.lines ∧
      t.loader = s.loader := by
  simp only [reverseCount]
  repeat' split
  all_goals simp

@[simp] theorem illegalEdge_frame (s : State) :
    let t := illegalEdge s
    t.pending = s.pending ∧ t.free = s.free ∧ t.sram = s.sram ∧ t.settingsMem = s.settingsMem ∧ t.cfg = s.cfg ∧
      t.bus = s.bus ∧ t.time = s.time ∧ t.cameras = s.cameras ∧ t.reject = s.reject ∧ t.robots = s.robots ∧
      t.engine = s.engine ∧ t.field = s.field ∧ t.grant = s.grant ∧ t.switch = s.switch ∧ t.lines = s.lines ∧
      t.loader = s.loader := by
  simp only [illegalEdge]
  repeat' split
  all_goals simp

@[simp] theorem countEdge_frame (a b : Bool) (s : State) :
    let t := countEdge a b s
    t.pending = s.pending ∧ t.free = s.free ∧ t.sram = s.sram ∧ t.settingsMem = s.settingsMem ∧ t.cfg = s.cfg ∧
      t.bus = s.bus ∧ t.time = s.time ∧ t.robots = s.robots ∧ t.engine = s.engine ∧ t.field = s.field ∧
      t.grant = s.grant ∧ t.switch = s.switch ∧ t.lines = s.lines ∧ t.loader = s.loader := by
  simp only [countEdge]
  repeat' split
  all_goals simp

@[simp] theorem encoderEdge_frame (a b : Bool) (s : State) :
    let t := encoderEdge a b s
    t.pending = s.pending ∧ t.free = s.free ∧ t.sram = s.sram ∧ t.settingsMem = s.settingsMem ∧ t.cfg = s.cfg ∧
      t.bus = s.bus ∧ t.time = s.time ∧ t.robots = s.robots ∧ t.engine = s.engine ∧ t.field = s.field ∧
      t.grant = s.grant ∧ t.switch = s.switch ∧ t.lines = s.lines ∧ t.loader = s.loader := by
  simp only [encoderEdge]
  repeat' split
  all_goals simp

@[simp] theorem applyFill_frame (r : Fin 8) (e : FillReport) (s : State) :
    let t := applyFill r e s
    t.pending = s.pending ∧ t.free = s.free ∧ t.sram = s.sram ∧ t.settingsMem = s.settingsMem ∧ t.cfg = s.cfg ∧
      t.bus = s.bus ∧ t.time = s.time ∧ t.cameras = s.cameras ∧ t.robots = s.robots ∧ t.engine = s.engine ∧
      t.field = s.field ∧ t.grant = s.grant ∧ t.switch = s.switch ∧ t.lines = s.lines ∧ t.notice = s.notice ∧
      t.writer = s.writer ∧ t.loader = s.loader := by
  simp only [applyFill]
  repeat' split
  all_goals simp

@[simp] theorem applyFills_frame (r : Fin 8) (l : List FillReport) (s : State) :
    let t := applyFills r l s
    t.pending = s.pending ∧ t.free = s.free ∧ t.sram = s.sram ∧ t.settingsMem = s.settingsMem ∧ t.cfg = s.cfg ∧
      t.bus = s.bus ∧ t.time = s.time ∧ t.cameras = s.cameras ∧ t.robots = s.robots ∧ t.engine = s.engine ∧
      t.field = s.field ∧ t.grant = s.grant ∧ t.switch = s.switch ∧ t.lines = s.lines ∧ t.notice = s.notice ∧
      t.writer = s.writer ∧ t.loader = s.loader := by
  simp only [applyFills]
  repeat' split
  all_goals simp

@[simp] theorem forceRecord_frame (c : Record) (s : State) :
    let t := forceRecord c s
    t.pending = s.pending ∧ t.free = s.free ∧ t.sram = s.sram ∧ t.settingsMem = s.settingsMem ∧ t.cfg = s.cfg ∧
      t.bus = s.bus ∧ t.time = s.time ∧ t.cameras = s.cameras ∧ t.robots = s.robots ∧ t.engine = s.engine ∧
      t.field = s.field ∧ t.grant = s.grant ∧ t.switch = s.switch ∧ t.lines = s.lines ∧ t.notice = s.notice ∧
      t.writer = s.writer ∧ t.loader = s.loader := by
  simp only [forceRecord]
  repeat' split
  all_goals simp

@[simp] theorem refillRing_frame (n : Nat) (s : State) :
    let t := refillRing n s
    t.pending = s.pending ∧ t.free = s.free ∧ t.sram = s.sram ∧ t.settingsMem = s.settingsMem ∧ t.cfg = s.cfg ∧
      t.bus = s.bus ∧ t.time = s.time ∧ t.cameras = s.cameras ∧ t.reject = s.reject ∧ t.robots = s.robots ∧
      t.engine = s.engine ∧ t.field = s.field ∧ t.grant = s.grant ∧ t.switch = s.switch ∧ t.lines = s.lines ∧
      t.notice = s.notice ∧ t.writer = s.writer ∧ t.loader = s.loader := by
  simp only [refillRing]
  repeat' split
  all_goals simp

@[simp] theorem resetLine_frame (n : Nat) (cause : Word) (s : State) :
    let t := resetLine n cause s
    t.pending = s.pending ∧ t.free = s.free ∧ t.sram = s.sram ∧ t.settingsMem = s.settingsMem ∧ t.cfg = s.cfg ∧
      t.bus = s.bus ∧ t.time = s.time ∧ t.robots = s.robots ∧ t.engine = s.engine ∧ t.field = s.field ∧
      t.grant = s.grant ∧ t.switch = s.switch ∧ t.lines = s.lines ∧ t.loader = s.loader := by
  simp only [resetLine]
  repeat' split
  all_goals simp

@[simp] theorem uncountedTravel_frame (s : State) :
    let t := uncountedTravel s
    t.pending = s.pending ∧ t.sram = s.sram ∧ t.settingsMem = s.settingsMem ∧ t.cfg = s.cfg ∧ t.bus = s.bus ∧
      t.time = s.time ∧ t.cameras = s.cameras ∧ t.reject = s.reject ∧ t.robots = s.robots ∧ t.engine = s.engine ∧
      t.field = s.field ∧ t.grant = s.grant ∧ t.switch = s.switch ∧ t.lines = s.lines ∧ t.loader = s.loader := by
  simp only [uncountedTravel]
  repeat' split
  all_goals simp

@[simp] theorem performHandover_frame (r : Fin 8) (m : BitVec 2) (s : State) :
    let t := performHandover r m s
    t.pending = s.pending ∧ t.free = s.free ∧ t.sram = s.sram ∧ t.settingsMem = s.settingsMem ∧ t.cfg = s.cfg ∧
      t.bus = s.bus ∧ t.time = s.time ∧ t.track = s.track ∧ t.cameras = s.cameras ∧ t.reject = s.reject ∧
      t.field = s.field ∧ t.grant = s.grant ∧ t.switch = s.switch ∧ t.lines = s.lines ∧ t.notice = s.notice ∧
      t.writer = s.writer ∧ t.loader = s.loader := by
  simp only [performHandover]
  repeat' split
  all_goals simp

@[simp] theorem handoverResult_frame (r : Fin 8) (x : ReqResult) (byte : Byte) (s : State) :
    let t := handoverResult r x byte s
    t.pending = s.pending ∧ t.free = s.free ∧ t.sram = s.sram ∧ t.settingsMem = s.settingsMem ∧ t.cfg = s.cfg ∧
      t.bus = s.bus ∧ t.time = s.time ∧ t.track = s.track ∧ t.cameras = s.cameras ∧ t.reject = s.reject ∧
      t.engine = s.engine ∧ t.field = s.field ∧ t.grant = s.grant ∧ t.switch = s.switch ∧ t.lines = s.lines ∧
      t.writer = s.writer ∧ t.loader = s.loader := by
  simp only [handoverResult]
  repeat' split
  all_goals simp

@[simp] theorem dropRecipe_frame (r : Fin 8) (w : Word) (s : State) :
    let t := dropRecipe r w s
    t.pending = s.pending ∧ t.free = s.free ∧ t.sram = s.sram ∧ t.settingsMem = s.settingsMem ∧ t.cfg = s.cfg ∧
      t.bus = s.bus ∧ t.time = s.time ∧ t.track = s.track ∧ t.cameras = s.cameras ∧ t.reject = s.reject ∧
      t.engine = s.engine ∧ t.field = s.field ∧ t.grant = s.grant ∧ t.switch = s.switch ∧ t.lines = s.lines ∧
      t.loader = s.loader := by
  simp only [dropRecipe]
  repeat' split
  all_goals simp

@[simp] theorem handoverRequest_frame (r : Fin 8) (w : Word) (s : State) :
    let t := handoverRequest r w s
    t.pending = s.pending ∧ t.free = s.free ∧ t.sram = s.sram ∧ t.settingsMem = s.settingsMem ∧ t.cfg = s.cfg ∧
      t.bus = s.bus ∧ t.time = s.time ∧ t.track = s.track ∧ t.cameras = s.cameras ∧ t.reject = s.reject ∧
      t.field = s.field ∧ t.grant = s.grant ∧ t.switch = s.switch ∧ t.lines = s.lines ∧ t.loader = s.loader := by
  simp only [handoverRequest]
  repeat' split
  all_goals simp

@[simp] theorem engineSlot_frame (s : State) :
    let t := engineSlot s
    t.pending = s.pending ∧ t.free = s.free ∧ t.settingsMem = s.settingsMem ∧ t.cfg = s.cfg ∧ t.bus = s.bus ∧
      t.time = s.time ∧ t.track = s.track ∧ t.cameras = s.cameras ∧ t.reject = s.reject ∧ t.field = s.field ∧
      t.grant = s.grant ∧ t.switch = s.switch ∧ t.lines = s.lines ∧ t.writer = s.writer ∧ t.loader = s.loader := by
  simp only [engineSlot]
  repeat' split
  all_goals simp

@[simp] theorem startCheck_frame (s : State) :
    let t := startCheck s
    t.pending = s.pending ∧ t.free = s.free ∧ t.sram = s.sram ∧ t.settingsMem = s.settingsMem ∧ t.cfg = s.cfg ∧
      t.time = s.time ∧ t.track = s.track ∧ t.cameras = s.cameras ∧ t.reject = s.reject ∧
      t.robots = s.robots ∧ t.field = s.field ∧ t.grant = s.grant ∧ t.switch = s.switch ∧ t.lines = s.lines ∧
      t.notice = s.notice ∧ t.writer = s.writer ∧ t.loader = s.loader := by
  simp only [startCheck]
  repeat' split
  all_goals simp

@[simp] theorem endLimitPass_frame (s : State) :
    let t := endLimitPass s
    t.pending = s.pending ∧ t.free = s.free ∧ t.sram = s.sram ∧ t.settingsMem = s.settingsMem ∧ t.cfg = s.cfg ∧
      t.bus = s.bus ∧ t.time = s.time ∧ t.track = s.track ∧ t.cameras = s.cameras ∧ t.reject = s.reject ∧
      t.field = s.field ∧ t.grant = s.grant ∧ t.switch = s.switch ∧ t.lines = s.lines ∧ t.loader = s.loader := by
  simp only [endLimitPass]
  repeat' split
  all_goals simp

@[simp] theorem finishCheck_frame (c : CheckRun) (s : State) :
    let t := finishCheck c s
    t.pending = s.pending ∧ t.free = s.free ∧ t.sram = s.sram ∧ t.settingsMem = s.settingsMem ∧ t.cfg = s.cfg ∧
      t.bus = s.bus ∧ t.time = s.time ∧ t.track = s.track ∧ t.cameras = s.cameras ∧ t.reject = s.reject ∧
      t.field = s.field ∧ t.grant = s.grant ∧ t.switch = s.switch ∧ t.lines = s.lines ∧ t.notice = s.notice ∧
      t.writer = s.writer ∧ t.loader = s.loader := by
  simp only [finishCheck]
  repeat' split
  all_goals simp

@[simp] theorem takePending_frame (r : Fin 8) (s : State) :
    let t := takePending r s
    t.pending = s.pending ∧ t.free = s.free ∧ t.sram = s.sram ∧ t.settingsMem = s.settingsMem ∧ t.cfg = s.cfg ∧
      t.bus = s.bus ∧ t.time = s.time ∧ t.track = s.track ∧ t.cameras = s.cameras ∧ t.reject = s.reject ∧
      t.field = s.field ∧ t.grant = s.grant ∧ t.switch = s.switch ∧ t.lines = s.lines ∧ t.notice = s.notice ∧
      t.writer = s.writer ∧ t.loader = s.loader := by
  simp only [takePending]
  repeat' split
  all_goals simp

end Sys2Proof.Machine
end

