-- ==== Sys2Proof/Laws/FramesRobots.lean ====
section
/-! SUPPORT. Frames: for each operation of robot cycles, answers and the Switch Supervisor, every field of State it leaves alone. -/

namespace Sys2Proof.Machine

open Sys2Proof

@[simp] theorem setContext_frame (r : Fin 8) (x : Context) (s : State) :
    let t := setContext r x s
    t.pending = s.pending ∧ t.free = s.free ∧ t.sram = s.sram ∧ t.settingsMem = s.settingsMem ∧ t.cfg = s.cfg ∧
      t.bus = s.bus ∧ t.time = s.time ∧ t.cameras = s.cameras ∧ t.engine = s.engine ∧ t.field = s.field ∧
      t.grant = s.grant ∧ t.switch = s.switch ∧ t.lines = s.lines ∧ t.loader = s.loader := by
  simp only [setContext]
  repeat' split
  all_goals simp

@[simp] theorem goOffline_frame (r : Fin 8) (s : State) :
    let t := goOffline r s
    t.pending = s.pending ∧ t.free = s.free ∧ t.sram = s.sram ∧ t.settingsMem = s.settingsMem ∧ t.cfg = s.cfg ∧
      t.bus = s.bus ∧ t.time = s.time ∧ t.cameras = s.cameras ∧ t.engine = s.engine ∧ t.grant = s.grant ∧
      t.switch = s.switch ∧ t.lines = s.lines ∧ t.loader = s.loader := by
  simp only [goOffline]
  repeat' split
  all_goals simp

@[simp] theorem goStarting_frame (r : Fin 8) (s : State) :
    let t := goStarting r s
    t.pending = s.pending ∧ t.free = s.free ∧ t.sram = s.sram ∧ t.settingsMem = s.settingsMem ∧ t.cfg = s.cfg ∧
      t.bus = s.bus ∧ t.time = s.time ∧ t.cameras = s.cameras ∧ t.engine = s.engine ∧ t.field = s.field ∧
      t.grant = s.grant ∧ t.switch = s.switch ∧ t.lines = s.lines ∧ t.loader = s.loader := by
  simp only [goStarting]
  repeat' split
  all_goals simp

@[simp] theorem followPort_frame (p : Fin 16) (s : State) :
    let t := followPort p s
    t.pending = s.pending ∧ t.free = s.free ∧ t.sram = s.sram ∧ t.settingsMem = s.settingsMem ∧ t.cfg = s.cfg ∧
      t.bus = s.bus ∧ t.time = s.time ∧ t.cameras = s.cameras ∧ t.engine = s.engine ∧ t.grant = s.grant ∧
      t.switch = s.switch ∧ t.lines = s.lines ∧ t.loader = s.loader := by
  simp only [followPort]
  repeat' split
  all_goals simp

@[simp] theorem missAnswer_frame (r : Fin 8) (s : State) :
    let t := missAnswer r s
    t.pending = s.pending ∧ t.free = s.free ∧ t.sram = s.sram ∧ t.settingsMem = s.settingsMem ∧ t.cfg = s.cfg ∧
      t.bus = s.bus ∧ t.time = s.time ∧ t.cameras = s.cameras ∧ t.engine = s.engine ∧ t.field = s.field ∧
      t.grant = s.grant ∧ t.switch = s.switch ∧ t.lines = s.lines ∧ t.loader = s.loader := by
  simp only [missAnswer]
  repeat' split
  all_goals simp

@[simp] theorem judgeAnswerState_frame (r : Fin 8) (s : State) :
    let t := judgeAnswerState r s
    t.pending = s.pending ∧ t.free = s.free ∧ t.sram = s.sram ∧ t.settingsMem = s.settingsMem ∧ t.cfg = s.cfg ∧
      t.bus = s.bus ∧ t.time = s.time ∧ t.cameras = s.cameras ∧ t.engine = s.engine ∧ t.field = s.field ∧
      t.grant = s.grant ∧ t.switch = s.switch ∧ t.lines = s.lines ∧ t.loader = s.loader := by
  simp only [judgeAnswerState]
  repeat' split
  all_goals simp

@[simp] theorem enterPendingSafe_frame (r : Fin 8) (s : State) :
    let t := enterPendingSafe r s
    t.pending = s.pending ∧ t.free = s.free ∧ t.sram = s.sram ∧ t.settingsMem = s.settingsMem ∧ t.cfg = s.cfg ∧
      t.bus = s.bus ∧ t.time = s.time ∧ t.cameras = s.cameras ∧ t.engine = s.engine ∧ t.field = s.field ∧
      t.grant = s.grant ∧ t.switch = s.switch ∧ t.lines = s.lines ∧ t.loader = s.loader := by
  simp only [enterPendingSafe]
  repeat' split
  all_goals simp

@[simp] theorem settleRoles_frame (r : Fin 8) (s : State) :
    let t := settleRoles r s
    t.pending = s.pending ∧ t.free = s.free ∧ t.sram = s.sram ∧ t.settingsMem = s.settingsMem ∧ t.cfg = s.cfg ∧
      t.bus = s.bus ∧ t.time = s.time ∧ t.cameras = s.cameras ∧ t.engine = s.engine ∧ t.field = s.field ∧
      t.grant = s.grant ∧ t.switch = s.switch ∧ t.lines = s.lines ∧ t.loader = s.loader := by
  simp only [settleRoles]
  repeat' split
  all_goals simp

@[simp] theorem testWatchdog_frame (r : Fin 8) (s : State) :
    let t := testWatchdog r s
    t.pending = s.pending ∧ t.free = s.free ∧ t.sram = s.sram ∧ t.settingsMem = s.settingsMem ∧ t.cfg = s.cfg ∧
      t.bus = s.bus ∧ t.time = s.time ∧ t.cameras = s.cameras ∧ t.engine = s.engine ∧ t.field = s.field ∧
      t.grant = s.grant ∧ t.switch = s.switch ∧ t.lines = s.lines ∧ t.loader = s.loader := by
  simp only [testWatchdog]
  repeat' split
  all_goals simp

@[simp] theorem buildFrame_frame (r : Fin 8) (n : Word) (t : Time) (s : State) :
    let t := buildFrame r n t s
    t.pending = s.pending ∧ t.free = s.free ∧ t.sram = s.sram ∧ t.settingsMem = s.settingsMem ∧ t.cfg = s.cfg ∧
      t.bus = s.bus ∧ t.time = s.time ∧ t.cameras = s.cameras ∧ t.reject = s.reject ∧ t.robots = s.robots ∧
      t.engine = s.engine ∧ t.grant = s.grant ∧ t.switch = s.switch ∧ t.lines = s.lines ∧ t.notice = s.notice ∧
      t.writer = s.writer ∧ t.loader = s.loader := by
  simp only [buildFrame]
  repeat' split
  all_goals simp

@[simp] theorem robotCycle_frame (n : Word) (t : Time) (r : Fin 8) (s : State) :
    let t := robotCycle n t r s
    t.pending = s.pending ∧ t.free = s.free ∧ t.sram = s.sram ∧ t.settingsMem = s.settingsMem ∧ t.cfg = s.cfg ∧
      t.bus = s.bus ∧ t.time = s.time ∧ t.cameras = s.cameras ∧ t.engine = s.engine ∧ t.grant = s.grant ∧
      t.switch = s.switch ∧ t.lines = s.lines ∧ t.loader = s.loader := by
  simp only [robotCycle]
  repeat' split
  all_goals simp

@[simp] theorem dropUnsent_frame (s : State) :
    let t := dropUnsent s
    t.pending = s.pending ∧ t.free = s.free ∧ t.sram = s.sram ∧ t.settingsMem = s.settingsMem ∧ t.cfg = s.cfg ∧
      t.bus = s.bus ∧ t.time = s.time ∧ t.track = s.track ∧ t.cameras = s.cameras ∧ t.reject = s.reject ∧
      t.engine = s.engine ∧ t.grant = s.grant ∧ t.switch = s.switch ∧ t.lines = s.lines ∧ t.loader = s.loader := by
  simp only [dropUnsent]
  repeat' split
  all_goals simp

@[simp] theorem robotsAtCycle_frame (n : Word) (t : Time) (s : State) :
    let t := robotsAtCycle n t s
    t.pending = s.pending ∧ t.free = s.free ∧ t.sram = s.sram ∧ t.settingsMem = s.settingsMem ∧ t.cfg = s.cfg ∧
      t.bus = s.bus ∧ t.time = s.time ∧ t.cameras = s.cameras ∧ t.engine = s.engine ∧ t.grant = s.grant ∧
      t.switch = s.switch ∧ t.lines = s.lines ∧ t.loader = s.loader := by
  simp only [robotsAtCycle]
  repeat' split
  all_goals simp

@[simp] theorem startSending_frame (s : State) :
    let t := startSending s
    t.pending = s.pending ∧ t.free = s.free ∧ t.sram = s.sram ∧ t.settingsMem = s.settingsMem ∧ t.cfg = s.cfg ∧
      t.time = s.time ∧ t.track = s.track ∧ t.cameras = s.cameras ∧ t.reject = s.reject ∧
      t.robots = s.robots ∧ t.engine = s.engine ∧ t.grant = s.grant ∧ t.switch = s.switch ∧ t.lines = s.lines ∧
      t.notice = s.notice ∧ t.writer = s.writer ∧ t.loader = s.loader := by
  simp only [startSending]
  repeat' split
  all_goals simp

@[simp] theorem readerSlot_frame (s : State) :
    let t := readerSlot s
    t.pending = s.pending ∧ t.free = s.free ∧ t.sram = s.sram ∧ t.settingsMem = s.settingsMem ∧ t.cfg = s.cfg ∧
      t.bus = s.bus ∧ t.time = s.time ∧ t.track = s.track ∧ t.cameras = s.cameras ∧ t.reject = s.reject ∧
      t.robots = s.robots ∧ t.engine = s.engine ∧ t.grant = s.grant ∧ t.switch = s.switch ∧ t.lines = s.lines ∧
      t.notice = s.notice ∧ t.writer = s.writer ∧ t.loader = s.loader := by
  simp only [readerSlot]
  repeat' split
  all_goals simp

@[simp] theorem completeSending_frame (s : State) :
    let t := completeSending s
    t.pending = s.pending ∧ t.free = s.free ∧ t.sram = s.sram ∧ t.settingsMem = s.settingsMem ∧ t.cfg = s.cfg ∧
      t.bus = s.bus ∧ t.time = s.time ∧ t.track = s.track ∧ t.cameras = s.cameras ∧ t.reject = s.reject ∧
      t.engine = s.engine ∧ t.grant = s.grant ∧ t.switch = s.switch ∧ t.lines = s.lines ∧ t.notice = s.notice ∧
      t.writer = s.writer ∧ t.loader = s.loader := by
  simp only [completeSending]
  repeat' split
  all_goals simp

@[simp] theorem joinDeposits_frame (r : Fin 8) (s : State) :
    let t := joinDeposits r s
    t.pending = s.pending ∧ t.free = s.free ∧ t.sram = s.sram ∧ t.settingsMem = s.settingsMem ∧ t.cfg = s.cfg ∧
      t.time = s.time ∧ t.track = s.track ∧ t.cameras = s.cameras ∧ t.reject = s.reject ∧ t.robots = s.robots ∧
      t.engine = s.engine ∧ t.grant = s.grant ∧ t.switch = s.switch ∧ t.lines = s.lines ∧ t.notice = s.notice ∧
      t.writer = s.writer ∧ t.loader = s.loader := by
  simp only [joinDeposits]
  repeat' split
  all_goals simp

@[simp] theorem startAnswer_frame (r : Fin 8) (body : List Byte) (s : State) :
    let t := startAnswer r body s
    t.pending = s.pending ∧ t.free = s.free ∧ t.sram = s.sram ∧ t.settingsMem = s.settingsMem ∧ t.cfg = s.cfg ∧
      t.time = s.time ∧ t.track = s.track ∧ t.cameras = s.cameras ∧ t.reject = s.reject ∧
      t.engine = s.engine ∧ t.grant = s.grant ∧ t.switch = s.switch ∧ t.lines = s.lines ∧ t.notice = s.notice ∧
      t.writer = s.writer ∧ t.loader = s.loader := by
  simp only [startAnswer]
  repeat' split
  all_goals simp

@[simp] theorem answerStarts_frame (s : State) :
    let t := answerStarts s
    t.pending = s.pending ∧ t.free = s.free ∧ t.sram = s.sram ∧ t.settingsMem = s.settingsMem ∧ t.cfg = s.cfg ∧
      t.time = s.time ∧ t.track = s.track ∧ t.cameras = s.cameras ∧ t.reject = s.reject ∧
      t.engine = s.engine ∧ t.grant = s.grant ∧ t.switch = s.switch ∧ t.lines = s.lines ∧ t.notice = s.notice ∧
      t.writer = s.writer ∧ t.loader = s.loader := by
  simp only [answerStarts]
  repeat' split
  all_goals simp

@[simp] theorem depositSlot_frame (s : State) :
    let t := depositSlot s
    t.pending = s.pending ∧ t.free = s.free ∧ t.settingsMem = s.settingsMem ∧ t.cfg = s.cfg ∧ t.bus = s.bus ∧
      t.time = s.time ∧ t.track = s.track ∧ t.cameras = s.cameras ∧ t.reject = s.reject ∧ t.engine = s.engine ∧
      t.field = s.field ∧ t.grant = s.grant ∧ t.switch = s.switch ∧ t.lines = s.lines ∧ t.notice = s.notice ∧
      t.writer = s.writer ∧ t.loader = s.loader := by
  simp only [depositSlot]
  repeat' split
  all_goals simp

@[simp] theorem takeReport_frame (r : Fin 8) (x : Reported) (s : State) :
    let t := takeReport r x s
    t.pending = s.pending ∧ t.free = s.free ∧ t.sram = s.sram ∧ t.settingsMem = s.settingsMem ∧ t.cfg = s.cfg ∧
      t.bus = s.bus ∧ t.time = s.time ∧ t.track = s.track ∧ t.cameras = s.cameras ∧ t.reject = s.reject ∧
      t.engine = s.engine ∧ t.field = s.field ∧ t.grant = s.grant ∧ t.switch = s.switch ∧ t.lines = s.lines ∧
      t.loader = s.loader := by
  simp only [takeReport]
  repeat' split
  all_goals simp

@[simp] theorem contextAfterAnswer_frame (r : Fin 8) (s : State) :
    let t := contextAfterAnswer r s
    t.pending = s.pending ∧ t.free = s.free ∧ t.sram = s.sram ∧ t.settingsMem = s.settingsMem ∧ t.cfg = s.cfg ∧
      t.bus = s.bus ∧ t.time = s.time ∧ t.cameras = s.cameras ∧ t.engine = s.engine ∧ t.field = s.field ∧
      t.grant = s.grant ∧ t.switch = s.switch ∧ t.lines = s.lines ∧ t.loader = s.loader := by
  simp only [contextAfterAnswer]
  repeat' split
  all_goals simp

@[simp] theorem completeAnswer_frame (r : Fin 8) (s : State) :
    let t := completeAnswer r s
    t.pending = s.pending ∧ t.free = s.free ∧ t.sram = s.sram ∧ t.settingsMem = s.settingsMem ∧ t.cfg = s.cfg ∧
      t.bus = s.bus ∧ t.time = s.time ∧ t.cameras = s.cameras ∧ t.engine = s.engine ∧ t.grant = s.grant ∧
      t.switch = s.switch ∧ t.lines = s.lines ∧ t.loader = s.loader := by
  simp only [completeAnswer]
  repeat' split
  all_goals simp

@[simp] theorem failAnswer_frame (r : Fin 8) (s : State) :
    let t := failAnswer r s
    t.pending = s.pending ∧ t.free = s.free ∧ t.sram = s.sram ∧ t.settingsMem = s.settingsMem ∧ t.cfg = s.cfg ∧
      t.bus = s.bus ∧ t.time = s.time ∧ t.cameras = s.cameras ∧ t.engine = s.engine ∧ t.grant = s.grant ∧
      t.switch = s.switch ∧ t.lines = s.lines ∧ t.loader = s.loader := by
  simp only [failAnswer]
  repeat' split
  all_goals simp

@[simp] theorem endAnswer_frame (r : Fin 8) (s : State) :
    let t := endAnswer r s
    t.pending = s.pending ∧ t.free = s.free ∧ t.sram = s.sram ∧ t.settingsMem = s.settingsMem ∧ t.cfg = s.cfg ∧
      t.bus = s.bus ∧ t.time = s.time ∧ t.track = s.track ∧ t.cameras = s.cameras ∧ t.reject = s.reject ∧
      t.engine = s.engine ∧ t.field = s.field ∧ t.grant = s.grant ∧ t.switch = s.switch ∧ t.lines = s.lines ∧
      t.notice = s.notice ∧ t.writer = s.writer ∧ t.loader = s.loader := by
  simp only [endAnswer]
  repeat' split
  all_goals simp

@[simp] theorem takeRequest_frame (r : Fin 8) (w : Word) (s : State) :
    let t := takeRequest r w s
    t.pending = s.pending ∧ t.free = s.free ∧ t.sram = s.sram ∧ t.settingsMem = s.settingsMem ∧ t.cfg = s.cfg ∧
      t.bus = s.bus ∧ t.time = s.time ∧ t.track = s.track ∧ t.cameras = s.cameras ∧ t.reject = s.reject ∧
      t.engine = s.engine ∧ t.field = s.field ∧ t.grant = s.grant ∧ t.switch = s.switch ∧ t.lines = s.lines ∧
      t.loader = s.loader := by
  simp only [takeRequest]
  repeat' split
  all_goals simp

@[simp] theorem requestCommand_frame (p : Fin 16) (a : CmdAction) (s : State) :
    let t := requestCommand p a s
    t.pending = s.pending ∧ t.free = s.free ∧ t.sram = s.sram ∧ t.settingsMem = s.settingsMem ∧ t.cfg = s.cfg ∧
      t.bus = s.bus ∧ t.time = s.time ∧ t.track = s.track ∧ t.cameras = s.cameras ∧ t.reject = s.reject ∧
      t.robots = s.robots ∧ t.engine = s.engine ∧ t.field = s.field ∧ t.grant = s.grant ∧ t.lines = s.lines ∧
      t.notice = s.notice ∧ t.writer = s.writer ∧ t.loader = s.loader := by
  simp only [requestCommand]
  repeat' split
  all_goals simp

@[simp] theorem formDesired_frame (p : Fin 16) (s : State) :
    let t := formDesired p s
    t.pending = s.pending ∧ t.free = s.free ∧ t.sram = s.sram ∧ t.settingsMem = s.settingsMem ∧ t.cfg = s.cfg ∧
      t.bus = s.bus ∧ t.time = s.time ∧ t.cameras = s.cameras ∧ t.engine = s.engine ∧ t.grant = s.grant ∧
      t.lines = s.lines ∧ t.loader = s.loader := by
  simp only [formDesired]
  repeat' split
  all_goals simp

@[simp] theorem serviceFollowsGrant_frame (s : State) :
    let t := serviceFollowsGrant s
    t.pending = s.pending ∧ t.free = s.free ∧ t.sram = s.sram ∧ t.settingsMem = s.settingsMem ∧ t.cfg = s.cfg ∧
      t.bus = s.bus ∧ t.time = s.time ∧ t.cameras = s.cameras ∧ t.engine = s.engine ∧ t.grant = s.grant ∧
      t.lines = s.lines ∧ t.loader = s.loader := by
  simp only [serviceFollowsGrant]
  repeat' split
  all_goals simp

@[simp] theorem stampPort_frame (p : Fin 16) (s : State) :
    let t := stampPort p s
    t.pending = s.pending ∧ t.free = s.free ∧ t.sram = s.sram ∧ t.settingsMem = s.settingsMem ∧ t.cfg = s.cfg ∧
      t.bus = s.bus ∧ t.time = s.time ∧ t.track = s.track ∧ t.cameras = s.cameras ∧ t.reject = s.reject ∧
      t.robots = s.robots ∧ t.engine = s.engine ∧ t.field = s.field ∧ t.grant = s.grant ∧ t.lines = s.lines ∧
      t.writer = s.writer ∧ t.loader = s.loader := by
  simp only [stampPort]
  repeat' split
  all_goals simp

@[simp] theorem setKnown_frame (p : Fin 16) (k : Known) (s : State) :
    let t := setKnown p k s
    t.pending = s.pending ∧ t.free = s.free ∧ t.sram = s.sram ∧ t.settingsMem = s.settingsMem ∧ t.cfg = s.cfg ∧
      t.bus = s.bus ∧ t.time = s.time ∧ t.cameras = s.cameras ∧ t.engine = s.engine ∧ t.grant = s.grant ∧
      t.lines = s.lines ∧ t.loader = s.loader := by
  simp only [setKnown]
  repeat' split
  all_goals simp

@[simp] theorem quarantine_frame (p : Fin 16) (limit : Nat) (s : State) :
    let t := quarantine p limit s
    t.pending = s.pending ∧ t.free = s.free ∧ t.sram = s.sram ∧ t.settingsMem = s.settingsMem ∧ t.cfg = s.cfg ∧
      t.bus = s.bus ∧ t.time = s.time ∧ t.cameras = s.cameras ∧ t.engine = s.engine ∧ t.grant = s.grant ∧
      t.lines = s.lines ∧ t.loader = s.loader := by
  simp only [quarantine]
  repeat' split
  all_goals simp

@[simp] theorem countLoss_frame (p : Fin 16) (s : State) :
    let t := countLoss p s
    t.pending = s.pending ∧ t.free = s.free ∧ t.sram = s.sram ∧ t.settingsMem = s.settingsMem ∧ t.cfg = s.cfg ∧
      t.bus = s.bus ∧ t.time = s.time ∧ t.cameras = s.cameras ∧ t.engine = s.engine ∧ t.grant = s.grant ∧
      t.lines = s.lines ∧ t.loader = s.loader := by
  simp only [countLoss]
  repeat' split
  all_goals simp

@[simp] theorem takeLink_frame (p : Fin 16) (up : Bool) (s : State) :
    let t := takeLink p up s
    t.pending = s.pending ∧ t.free = s.free ∧ t.sram = s.sram ∧ t.settingsMem = s.settingsMem ∧ t.cfg = s.cfg ∧
      t.bus = s.bus ∧ t.time = s.time ∧ t.cameras = s.cameras ∧ t.engine = s.engine ∧ t.grant = s.grant ∧
      t.lines = s.lines ∧ t.loader = s.loader := by
  simp only [takeLink]
  repeat' split
  all_goals simp

@[simp] theorem flapWindow_frame (p : Fin 16) (s : State) :
    let t := flapWindow p s
    t.pending = s.pending ∧ t.free = s.free ∧ t.sram = s.sram ∧ t.settingsMem = s.settingsMem ∧ t.cfg = s.cfg ∧
      t.bus = s.bus ∧ t.time = s.time ∧ t.track = s.track ∧ t.cameras = s.cameras ∧ t.reject = s.reject ∧
      t.robots = s.robots ∧ t.engine = s.engine ∧ t.field = s.field ∧ t.grant = s.grant ∧ t.lines = s.lines ∧
      t.notice = s.notice ∧ t.writer = s.writer ∧ t.loader = s.loader := by
  simp only [flapWindow]
  repeat' split
  all_goals simp

@[simp] theorem overridden_frame (p : Fin 16) (reported desired : Bool) (s : State) :
    let t := overridden p reported desired s
    t.pending = s.pending ∧ t.free = s.free ∧ t.sram = s.sram ∧ t.settingsMem = s.settingsMem ∧ t.cfg = s.cfg ∧
      t.bus = s.bus ∧ t.time = s.time ∧ t.track = s.track ∧ t.cameras = s.cameras ∧ t.reject = s.reject ∧
      t.robots = s.robots ∧ t.engine = s.engine ∧ t.field = s.field ∧ t.grant = s.grant ∧ t.lines = s.lines ∧
      t.loader = s.loader := by
  simp only [overridden]
  repeat' split
  all_goals simp

@[simp] theorem takeNotice_frame (m : PortMsg) (s : State) :
    let t := takeNotice m s
    t.pending = s.pending ∧ t.free = s.free ∧ t.sram = s.sram ∧ t.settingsMem = s.settingsMem ∧ t.cfg = s.cfg ∧
      t.bus = s.bus ∧ t.time = s.time ∧ t.cameras = s.cameras ∧ t.engine = s.engine ∧ t.grant = s.grant ∧
      t.lines = s.lines ∧ t.loader = s.loader := by
  simp only [takeNotice]
  repeat' split
  all_goals simp

@[simp] theorem commandFailed_frame (c : Cmd) (cause : Word) (s : State) :
    let t := commandFailed c cause s
    t.pending = s.pending ∧ t.free = s.free ∧ t.sram = s.sram ∧ t.settingsMem = s.settingsMem ∧ t.cfg = s.cfg ∧
      t.bus = s.bus ∧ t.time = s.time ∧ t.track = s.track ∧ t.cameras = s.cameras ∧ t.reject = s.reject ∧
      t.robots = s.robots ∧ t.engine = s.engine ∧ t.field = s.field ∧ t.grant = s.grant ∧ t.lines = s.lines ∧
      t.loader = s.loader := by
  simp only [commandFailed]
  repeat' split
  all_goals simp

@[simp] theorem settleCommand_frame (o : Outstanding) (m : PortMsg) (s : State) :
    let t := settleCommand o m s
    t.pending = s.pending ∧ t.free = s.free ∧ t.sram = s.sram ∧ t.settingsMem = s.settingsMem ∧ t.cfg = s.cfg ∧
      t.bus = s.bus ∧ t.time = s.time ∧ t.cameras = s.cameras ∧ t.engine = s.engine ∧ t.grant = s.grant ∧
      t.lines = s.lines ∧ t.loader = s.loader := by
  simp only [settleCommand]
  repeat' split
  all_goals simp

@[simp] theorem takeReply_frame (m : PortMsg) (s : State) :
    let t := takeReply m s
    t.pending = s.pending ∧ t.free = s.free ∧ t.sram = s.sram ∧ t.settingsMem = s.settingsMem ∧ t.cfg = s.cfg ∧
      t.bus = s.bus ∧ t.time = s.time ∧ t.cameras = s.cameras ∧ t.engine = s.engine ∧ t.grant = s.grant ∧
      t.lines = s.lines ∧ t.loader = s.loader := by
  simp only [takeReply]
  repeat' split
  all_goals simp

@[simp] theorem receivePortState_frame (m : PortMsg) (s : State) :
    let t := receivePortState m s
    t.pending = s.pending ∧ t.free = s.free ∧ t.sram = s.sram ∧ t.settingsMem = s.settingsMem ∧ t.cfg = s.cfg ∧
      t.bus = s.bus ∧ t.time = s.time ∧ t.cameras = s.cameras ∧ t.engine = s.engine ∧ t.grant = s.grant ∧
      t.lines = s.lines ∧ t.loader = s.loader := by
  simp only [receivePortState]
  repeat' split
  all_goals simp

@[simp] theorem sendCommand_frame (s : State) :
    let t := sendCommand s
    t.pending = s.pending ∧ t.free = s.free ∧ t.sram = s.sram ∧ t.settingsMem = s.settingsMem ∧ t.cfg = s.cfg ∧
      t.bus = s.bus ∧ t.time = s.time ∧ t.track = s.track ∧ t.cameras = s.cameras ∧ t.reject = s.reject ∧
      t.robots = s.robots ∧ t.engine = s.engine ∧ t.field = s.field ∧ t.grant = s.grant ∧ t.lines = s.lines ∧
      t.notice = s.notice ∧ t.writer = s.writer ∧ t.loader = s.loader := by
  simp only [sendCommand]
  repeat' split
  all_goals simp

@[simp] theorem sentCommand_frame (s : State) :
    let t := sentCommand s
    t.pending = s.pending ∧ t.free = s.free ∧ t.sram = s.sram ∧ t.settingsMem = s.settingsMem ∧ t.cfg = s.cfg ∧
      t.bus = s.bus ∧ t.time = s.time ∧ t.track = s.track ∧ t.cameras = s.cameras ∧ t.reject = s.reject ∧
      t.robots = s.robots ∧ t.engine = s.engine ∧ t.field = s.field ∧ t.grant = s.grant ∧ t.lines = s.lines ∧
      t.notice = s.notice ∧ t.writer = s.writer ∧ t.loader = s.loader := by
  simp only [sentCommand]
  repeat' split
  all_goals simp

@[simp] theorem timeoutCommand_frame (s : State) :
    let t := timeoutCommand s
    t.pending = s.pending ∧ t.free = s.free ∧ t.sram = s.sram ∧ t.settingsMem = s.settingsMem ∧ t.cfg = s.cfg ∧
      t.bus = s.bus ∧ t.time = s.time ∧ t.cameras = s.cameras ∧ t.engine = s.engine ∧ t.grant = s.grant ∧
      t.lines = s.lines ∧ t.loader = s.loader := by
  simp only [timeoutCommand]
  repeat' split
  all_goals simp

@[simp] theorem ignorePort_frame (reason w : Word) (s : State) :
    let t := ignorePort reason w s
    t.pending = s.pending ∧ t.free = s.free ∧ t.sram = s.sram ∧ t.settingsMem = s.settingsMem ∧ t.cfg = s.cfg ∧
      t.bus = s.bus ∧ t.time = s.time ∧ t.track = s.track ∧ t.cameras = s.cameras ∧ t.reject = s.reject ∧
      t.robots = s.robots ∧ t.engine = s.engine ∧ t.field = s.field ∧ t.grant = s.grant ∧ t.switch = s.switch ∧
      t.lines = s.lines ∧ t.loader = s.loader := by
  simp only [ignorePort]
  repeat' split
  all_goals simp

@[simp] theorem takePort_frame (p : Fin 16) (f : Port → Port) (w : Word) (s : State) :
    let t := takePort p f w s
    t.pending = s.pending ∧ t.free = s.free ∧ t.sram = s.sram ∧ t.settingsMem = s.settingsMem ∧ t.cfg = s.cfg ∧
      t.bus = s.bus ∧ t.time = s.time ∧ t.cameras = s.cameras ∧ t.engine = s.engine ∧ t.grant = s.grant ∧
      t.lines = s.lines ∧ t.loader = s.loader := by
  simp only [takePort]
  repeat' split
  all_goals simp

@[simp] theorem portRequest_frame (w : Word) (s : State) :
    let t := portRequest w s
    t.pending = s.pending ∧ t.free = s.free ∧ t.sram = s.sram ∧ t.settingsMem = s.settingsMem ∧ t.cfg = s.cfg ∧
      t.bus = s.bus ∧ t.time = s.time ∧ t.cameras = s.cameras ∧ t.engine = s.engine ∧ t.grant = s.grant ∧
      t.lines = s.lines ∧ t.loader = s.loader := by
  simp only [portRequest]
  repeat' split
  all_goals simp

@[simp] theorem misplace_frame (p : Fin 16) (kind : Byte) (second : Word) (s : State) :
    let t := misplace p kind second s
    t.pending = s.pending ∧ t.free = s.free ∧ t.sram = s.sram ∧ t.settingsMem = s.settingsMem ∧ t.cfg = s.cfg ∧
      t.bus = s.bus ∧ t.time = s.time ∧ t.track = s.track ∧ t.cameras = s.cameras ∧ t.reject = s.reject ∧
      t.robots = s.robots ∧ t.engine = s.engine ∧ t.field = s.field ∧ t.grant = s.grant ∧ t.lines = s.lines ∧
      t.loader = s.loader := by
  simp only [misplace]
  repeat' split
  all_goals simp

@[simp] theorem admitFrame_frame (s : State) :
    let t := admitFrame s
    t.pending = s.pending ∧ t.free = s.free ∧ t.sram = s.sram ∧ t.settingsMem = s.settingsMem ∧ t.cfg = s.cfg ∧
      t.bus = s.bus ∧ t.time = s.time ∧ t.track = s.track ∧ t.cameras = s.cameras ∧ t.reject = s.reject ∧
      t.robots = s.robots ∧ t.engine = s.engine ∧ t.grant = s.grant ∧ t.lines = s.lines ∧ t.loader = s.loader := by
  simp only [admitFrame]
  repeat' split
  all_goals simp

@[simp] theorem takeRoles_frame (c : Settings) (s : State) :
    let t := takeRoles c s
    t.pending = s.pending ∧ t.free = s.free ∧ t.sram = s.sram ∧ t.settingsMem = s.settingsMem ∧ t.cfg = s.cfg ∧
      t.bus = s.bus ∧ t.time = s.time ∧ t.track = s.track ∧ t.cameras = s.cameras ∧ t.reject = s.reject ∧
      t.robots = s.robots ∧ t.engine = s.engine ∧ t.field = s.field ∧ t.grant = s.grant ∧ t.lines = s.lines ∧
      t.notice = s.notice ∧ t.writer = s.writer ∧ t.loader = s.loader := by
  simp only [takeRoles]
  repeat' split
  all_goals simp

@[simp] theorem commandPorts_frame (ps : List (Fin 16)) (s : State) :
    let t := commandPorts ps s
    t.pending = s.pending ∧ t.free = s.free ∧ t.sram = s.sram ∧ t.settingsMem = s.settingsMem ∧ t.cfg = s.cfg ∧
      t.bus = s.bus ∧ t.time = s.time ∧ t.track = s.track ∧ t.cameras = s.cameras ∧ t.reject = s.reject ∧
      t.robots = s.robots ∧ t.engine = s.engine ∧ t.field = s.field ∧ t.grant = s.grant ∧ t.lines = s.lines ∧
      t.notice = s.notice ∧ t.writer = s.writer ∧ t.loader = s.loader := by
  simp only [commandPorts]
  repeat' split
  all_goals simp

@[simp] theorem reloadSwitch_frame (c : Settings) (s : State) :
    let t := reloadSwitch c s
    t.pending = s.pending ∧ t.free = s.free ∧ t.sram = s.sram ∧ t.settingsMem = s.settingsMem ∧ t.cfg = s.cfg ∧
      t.bus = s.bus ∧ t.time = s.time ∧ t.track = s.track ∧ t.cameras = s.cameras ∧ t.reject = s.reject ∧
      t.robots = s.robots ∧ t.engine = s.engine ∧ t.field = s.field ∧ t.grant = s.grant ∧ t.lines = s.lines ∧
      t.notice = s.notice ∧ t.writer = s.writer ∧ t.loader = s.loader := by
  simp only [reloadSwitch]
  repeat' split
  all_goals simp

@[simp] theorem firstSwitch_frame (c : Settings) (s : State) :
    let t := firstSwitch c s
    t.pending = s.pending ∧ t.free = s.free ∧ t.sram = s.sram ∧ t.settingsMem = s.settingsMem ∧ t.cfg = s.cfg ∧
      t.bus = s.bus ∧ t.time = s.time ∧ t.track = s.track ∧ t.cameras = s.cameras ∧ t.reject = s.reject ∧
      t.robots = s.robots ∧ t.engine = s.engine ∧ t.field = s.field ∧ t.grant = s.grant ∧ t.lines = s.lines ∧
      t.notice = s.notice ∧ t.writer = s.writer ∧ t.loader = s.loader := by
  simp only [firstSwitch]
  repeat' split
  all_goals simp

end Sys2Proof.Machine
end

