-- ==== Sys2Proof/Laws/FramesLines.lean ====
section
/-! SUPPORT. Frames: for each operation of grants, lines, machine time and reception, every field of State it leaves alone. -/

namespace Sys2Proof.Machine

open Sys2Proof

@[simp] theorem setLamp_frame (x : Lamp) (s : State) :
    let t := setLamp x s
    t.pending = s.pending ∧ t.free = s.free ∧ t.sram = s.sram ∧ t.settingsMem = s.settingsMem ∧ t.cfg = s.cfg ∧
      t.bus = s.bus ∧ t.time = s.time ∧ t.track = s.track ∧ t.cameras = s.cameras ∧ t.reject = s.reject ∧
      t.robots = s.robots ∧ t.engine = s.engine ∧ t.field = s.field ∧ t.switch = s.switch ∧ t.notice = s.notice ∧
      t.writer = s.writer ∧ t.loader = s.loader := by
  simp only [setLamp]
  repeat' split
  all_goals simp

@[simp] theorem grantChanged_frame (old : Level) (cause : Nat) (s : State) :
    let t := grantChanged old cause s
    t.pending = s.pending ∧ t.free = s.free ∧ t.sram = s.sram ∧ t.settingsMem = s.settingsMem ∧ t.cfg = s.cfg ∧
      t.bus = s.bus ∧ t.time = s.time ∧ t.track = s.track ∧ t.cameras = s.cameras ∧ t.robots = s.robots ∧
      t.engine = s.engine ∧ t.field = s.field ∧ t.grant = s.grant ∧ t.switch = s.switch ∧ t.lines = s.lines ∧
      t.loader = s.loader := by
  simp only [grantChanged]
  repeat' split
  all_goals simp

@[simp] theorem closeGrant_frame (cause : Nat) (s : State) :
    let t := closeGrant cause s
    t.pending = s.pending ∧ t.free = s.free ∧ t.sram = s.sram ∧ t.settingsMem = s.settingsMem ∧ t.cfg = s.cfg ∧
      t.bus = s.bus ∧ t.time = s.time ∧ t.cameras = s.cameras ∧ t.engine = s.engine ∧ t.loader = s.loader := by
  simp only [closeGrant]
  repeat' split
  all_goals simp

@[simp] theorem openGrant_frame (level : Level) (m : Byte) (s : State) :
    let t := openGrant level m s
    t.pending = s.pending ∧ t.free = s.free ∧ t.sram = s.sram ∧ t.settingsMem = s.settingsMem ∧ t.cfg = s.cfg ∧
      t.bus = s.bus ∧ t.time = s.time ∧ t.cameras = s.cameras ∧ t.engine = s.engine ∧ t.loader = s.loader := by
  simp only [openGrant]
  repeat' split
  all_goals simp

@[simp] theorem ignoreGrant_frame (reason w : Word) (s : State) :
    let t := ignoreGrant reason w s
    t.pending = s.pending ∧ t.free = s.free ∧ t.sram = s.sram ∧ t.settingsMem = s.settingsMem ∧ t.cfg = s.cfg ∧
      t.bus = s.bus ∧ t.time = s.time ∧ t.track = s.track ∧ t.cameras = s.cameras ∧ t.reject = s.reject ∧
      t.robots = s.robots ∧ t.engine = s.engine ∧ t.field = s.field ∧ t.switch = s.switch ∧ t.lines = s.lines ∧
      t.loader = s.loader := by
  simp only [ignoreGrant]
  repeat' split
  all_goals simp

@[simp] theorem grantRequest_frame (w : Word) (s : State) :
    let t := grantRequest w s
    t.pending = s.pending ∧ t.free = s.free ∧ t.sram = s.sram ∧ t.settingsMem = s.settingsMem ∧ t.cfg = s.cfg ∧
      t.bus = s.bus ∧ t.time = s.time ∧ t.cameras = s.cameras ∧ t.engine = s.engine ∧ t.loader = s.loader := by
  simp only [grantRequest]
  repeat' split
  all_goals simp

@[simp] theorem keyPosition_frame (cause : Nat) (s : State) :
    let t := keyPosition cause s
    t.pending = s.pending ∧ t.free = s.free ∧ t.sram = s.sram ∧ t.settingsMem = s.settingsMem ∧ t.cfg = s.cfg ∧
      t.bus = s.bus ∧ t.time = s.time ∧ t.cameras = s.cameras ∧ t.engine = s.engine ∧ t.loader = s.loader := by
  simp only [keyPosition]
  repeat' split
  all_goals simp

@[simp] theorem settlePair_frame (a b : Bool) (cause : Nat) (s : State) :
    let t := settlePair a b cause s
    t.pending = s.pending ∧ t.free = s.free ∧ t.sram = s.sram ∧ t.settingsMem = s.settingsMem ∧ t.cfg = s.cfg ∧
      t.bus = s.bus ∧ t.time = s.time ∧ t.cameras = s.cameras ∧ t.engine = s.engine ∧ t.loader = s.loader := by
  simp only [settlePair]
  repeat' split
  all_goals simp

@[simp] theorem keyChange_frame (s : State) :
    let t := keyChange s
    t.pending = s.pending ∧ t.free = s.free ∧ t.sram = s.sram ∧ t.settingsMem = s.settingsMem ∧ t.cfg = s.cfg ∧
      t.bus = s.bus ∧ t.time = s.time ∧ t.track = s.track ∧ t.cameras = s.cameras ∧ t.reject = s.reject ∧
      t.robots = s.robots ∧ t.engine = s.engine ∧ t.field = s.field ∧ t.switch = s.switch ∧ t.lines = s.lines ∧
      t.notice = s.notice ∧ t.writer = s.writer ∧ t.loader = s.loader := by
  simp only [keyChange]
  repeat' split
  all_goals simp

@[simp] theorem keyDebounced_frame (s : State) :
    let t := keyDebounced s
    t.pending = s.pending ∧ t.free = s.free ∧ t.sram = s.sram ∧ t.settingsMem = s.settingsMem ∧ t.cfg = s.cfg ∧
      t.bus = s.bus ∧ t.time = s.time ∧ t.cameras = s.cameras ∧ t.engine = s.engine ∧ t.loader = s.loader := by
  simp only [keyDebounced]
  repeat' split
  all_goals simp

@[simp] theorem takePairs_frame (cause : Nat) (s : State) :
    let t := takePairs cause s
    t.pending = s.pending ∧ t.free = s.free ∧ t.sram = s.sram ∧ t.settingsMem = s.settingsMem ∧ t.cfg = s.cfg ∧
      t.bus = s.bus ∧ t.time = s.time ∧ t.cameras = s.cameras ∧ t.engine = s.engine ∧ t.loader = s.loader := by
  simp only [takePairs]
  repeat' split
  all_goals simp

@[simp] theorem expireGrant_frame (s : State) :
    let t := expireGrant s
    t.pending = s.pending ∧ t.free = s.free ∧ t.sram = s.sram ∧ t.settingsMem = s.settingsMem ∧ t.cfg = s.cfg ∧
      t.bus = s.bus ∧ t.time = s.time ∧ t.cameras = s.cameras ∧ t.engine = s.engine ∧ t.loader = s.loader := by
  simp only [expireGrant]
  repeat' split
  all_goals simp

@[simp] theorem startBlinking_frame (s : State) :
    let t := startBlinking s
    t.pending = s.pending ∧ t.free = s.free ∧ t.sram = s.sram ∧ t.settingsMem = s.settingsMem ∧ t.cfg = s.cfg ∧
      t.bus = s.bus ∧ t.time = s.time ∧ t.track = s.track ∧ t.cameras = s.cameras ∧ t.reject = s.reject ∧
      t.robots = s.robots ∧ t.engine = s.engine ∧ t.field = s.field ∧ t.switch = s.switch ∧ t.notice = s.notice ∧
      t.writer = s.writer ∧ t.loader = s.loader := by
  simp only [startBlinking]
  repeat' split
  all_goals simp

@[simp] theorem deliver_frame (f : LineFn) (level : Bool) (s : State) :
    let t := deliver f level s
    t.pending = s.pending ∧ t.free = s.free ∧ t.sram = s.sram ∧ t.settingsMem = s.settingsMem ∧ t.cfg = s.cfg ∧
      t.bus = s.bus ∧ t.time = s.time ∧ t.robots = s.robots ∧ t.engine = s.engine ∧ t.field = s.field ∧
      t.switch = s.switch ∧ t.lines = s.lines ∧ t.loader = s.loader := by
  simp only [deliver]
  repeat' split
  all_goals simp

@[simp] theorem acceptLevel_frame (l : Fin 16) (level : Bool) (s : State) :
    let t := acceptLevel l level s
    t.pending = s.pending ∧ t.free = s.free ∧ t.sram = s.sram ∧ t.settingsMem = s.settingsMem ∧ t.cfg = s.cfg ∧
      t.bus = s.bus ∧ t.time = s.time ∧ t.track = s.track ∧ t.cameras = s.cameras ∧ t.reject = s.reject ∧
      t.robots = s.robots ∧ t.engine = s.engine ∧ t.field = s.field ∧ t.grant = s.grant ∧ t.switch = s.switch ∧
      t.notice = s.notice ∧ t.writer = s.writer ∧ t.loader = s.loader := by
  simp only [acceptLevel]
  repeat' split
  all_goals simp

@[simp] theorem levelChange_frame (l : Fin 16) (rec : LineCfg) (level : Bool) (s : State) :
    let t := levelChange l rec level s
    t.pending = s.pending ∧ t.free = s.free ∧ t.sram = s.sram ∧ t.settingsMem = s.settingsMem ∧ t.cfg = s.cfg ∧
      t.bus = s.bus ∧ t.time = s.time ∧ t.robots = s.robots ∧ t.engine = s.engine ∧ t.field = s.field ∧
      t.switch = s.switch ∧ t.loader = s.loader := by
  simp only [levelChange]
  repeat' split
  all_goals simp

@[simp] theorem pinChange_frame (l : Fin 16) (high : Bool) (s : State) :
    let t := pinChange l high s
    t.pending = s.pending ∧ t.free = s.free ∧ t.sram = s.sram ∧ t.settingsMem = s.settingsMem ∧ t.cfg = s.cfg ∧
      t.bus = s.bus ∧ t.time = s.time ∧ t.robots = s.robots ∧ t.engine = s.engine ∧ t.field = s.field ∧
      t.switch = s.switch ∧ t.loader = s.loader := by
  simp only [pinChange]
  repeat' split
  all_goals simp

@[simp] theorem keyPinChange_frame (keyB : Bool) (high : Bool) (s : State) :
    let t := keyPinChange keyB high s
    t.pending = s.pending ∧ t.free = s.free ∧ t.sram = s.sram ∧ t.settingsMem = s.settingsMem ∧ t.cfg = s.cfg ∧
      t.bus = s.bus ∧ t.time = s.time ∧ t.robots = s.robots ∧ t.engine = s.engine ∧ t.field = s.field ∧
      t.switch = s.switch ∧ t.loader = s.loader := by
  simp only [keyPinChange]
  repeat' split
  all_goals simp

@[simp] theorem acceptCandidate_frame (l : Fin 16) (s : State) :
    let t := acceptCandidate l s
    t.pending = s.pending ∧ t.free = s.free ∧ t.sram = s.sram ∧ t.settingsMem = s.settingsMem ∧ t.cfg = s.cfg ∧
      t.bus = s.bus ∧ t.time = s.time ∧ t.track = s.track ∧ t.cameras = s.cameras ∧ t.reject = s.reject ∧
      t.robots = s.robots ∧ t.engine = s.engine ∧ t.field = s.field ∧ t.grant = s.grant ∧ t.switch = s.switch ∧
      t.notice = s.notice ∧ t.writer = s.writer ∧ t.loader = s.loader := by
  simp only [acceptCandidate]
  repeat' split
  all_goals simp

@[simp] theorem debounced_frame (l : Fin 16) (s : State) :
    let t := debounced l s
    t.pending = s.pending ∧ t.free = s.free ∧ t.sram = s.sram ∧ t.settingsMem = s.settingsMem ∧ t.cfg = s.cfg ∧
      t.bus = s.bus ∧ t.time = s.time ∧ t.robots = s.robots ∧ t.engine = s.engine ∧ t.field = s.field ∧
      t.switch = s.switch ∧ t.loader = s.loader := by
  simp only [debounced]
  repeat' split
  all_goals simp

@[simp] theorem takeRecords_frame (c : Settings) (s : State) :
    let t := takeRecords c s
    t.pending = s.pending ∧ t.free = s.free ∧ t.sram = s.sram ∧ t.settingsMem = s.settingsMem ∧ t.cfg = s.cfg ∧
      t.bus = s.bus ∧ t.time = s.time ∧ t.track = s.track ∧ t.cameras = s.cameras ∧ t.reject = s.reject ∧
      t.robots = s.robots ∧ t.engine = s.engine ∧ t.field = s.field ∧ t.grant = s.grant ∧ t.switch = s.switch ∧
      t.notice = s.notice ∧ t.writer = s.writer ∧ t.loader = s.loader := by
  simp only [takeRecords]
  repeat' split
  all_goals simp

@[simp] theorem takeEncoderPair_frame (s : State) :
    let t := takeEncoderPair s
    t.pending = s.pending ∧ t.free = s.free ∧ t.sram = s.sram ∧ t.settingsMem = s.settingsMem ∧ t.cfg = s.cfg ∧
      t.bus = s.bus ∧ t.time = s.time ∧ t.cameras = s.cameras ∧ t.reject = s.reject ∧ t.robots = s.robots ∧
      t.engine = s.engine ∧ t.field = s.field ∧ t.grant = s.grant ∧ t.switch = s.switch ∧ t.lines = s.lines ∧
      t.notice = s.notice ∧ t.writer = s.writer ∧ t.loader = s.loader := by
  simp only [takeEncoderPair]
  repeat' split
  all_goals simp

@[simp] theorem followSampled_frame (f : LineFn) (s : State) :
    let t := followSampled f s
    t.pending = s.pending ∧ t.free = s.free ∧ t.sram = s.sram ∧ t.settingsMem = s.settingsMem ∧ t.cfg = s.cfg ∧
      t.bus = s.bus ∧ t.time = s.time ∧ t.cameras = s.cameras ∧ t.engine = s.engine ∧ t.loader = s.loader := by
  simp only [followSampled]
  repeat' split
  all_goals simp

@[simp] theorem takeDeferredOne_frame (l : Fin 16) (s : State) :
    let t := takeDeferredOne l s
    t.pending = s.pending ∧ t.free = s.free ∧ t.sram = s.sram ∧ t.settingsMem = s.settingsMem ∧ t.cfg = s.cfg ∧
      t.bus = s.bus ∧ t.time = s.time ∧ t.cameras = s.cameras ∧ t.engine = s.engine ∧ t.loader = s.loader := by
  simp only [takeDeferredOne]
  repeat' split
  all_goals simp

@[simp] theorem takeDeferred_frame (s : State) :
    let t := takeDeferred s
    t.pending = s.pending ∧ t.free = s.free ∧ t.sram = s.sram ∧ t.settingsMem = s.settingsMem ∧ t.cfg = s.cfg ∧
      t.bus = s.bus ∧ t.time = s.time ∧ t.cameras = s.cameras ∧ t.engine = s.engine ∧ t.loader = s.loader := by
  simp only [takeDeferred]
  repeat' split
  all_goals simp

@[simp] theorem endTrigger_frame (c : Fin 4) (s : State) :
    let t := endTrigger c s
    t.pending = s.pending ∧ t.free = s.free ∧ t.sram = s.sram ∧ t.settingsMem = s.settingsMem ∧ t.cfg = s.cfg ∧
      t.bus = s.bus ∧ t.time = s.time ∧ t.engine = s.engine ∧ t.loader = s.loader := by
  simp only [endTrigger]
  repeat' split
  all_goals simp

@[simp] theorem cameraIsReady_frame (c : Fin 4) (s : State) :
    let t := cameraIsReady c s
    t.pending = s.pending ∧ t.free = s.free ∧ t.sram = s.sram ∧ t.settingsMem = s.settingsMem ∧ t.cfg = s.cfg ∧
      t.bus = s.bus ∧ t.time = s.time ∧ t.track = s.track ∧ t.reject = s.reject ∧ t.robots = s.robots ∧
      t.engine = s.engine ∧ t.field = s.field ∧ t.grant = s.grant ∧ t.switch = s.switch ∧ t.lines = s.lines ∧
      t.notice = s.notice ∧ t.writer = s.writer ∧ t.loader = s.loader := by
  simp only [cameraIsReady]
  repeat' split
  all_goals simp

@[simp] theorem endEjector_frame (s : State) :
    let t := endEjector s
    t.pending = s.pending ∧ t.free = s.free ∧ t.sram = s.sram ∧ t.settingsMem = s.settingsMem ∧ t.cfg = s.cfg ∧
      t.bus = s.bus ∧ t.time = s.time ∧ t.cameras = s.cameras ∧ t.engine = s.engine ∧ t.loader = s.loader := by
  simp only [endEjector]
  repeat' split
  all_goals simp

@[simp] theorem startCyclePulse_frame (t : Time) (s : State) :
    let t := startCyclePulse t s
    t.pending = s.pending ∧ t.free = s.free ∧ t.sram = s.sram ∧ t.settingsMem = s.settingsMem ∧ t.cfg = s.cfg ∧
      t.bus = s.bus ∧ t.time = s.time ∧ t.track = s.track ∧ t.cameras = s.cameras ∧ t.reject = s.reject ∧
      t.robots = s.robots ∧ t.engine = s.engine ∧ t.field = s.field ∧ t.grant = s.grant ∧ t.switch = s.switch ∧
      t.notice = s.notice ∧ t.writer = s.writer ∧ t.loader = s.loader := by
  simp only [startCyclePulse]
  repeat' split
  all_goals simp

@[simp] theorem endCyclePulse_frame (s : State) :
    let t := endCyclePulse s
    t.pending = s.pending ∧ t.free = s.free ∧ t.sram = s.sram ∧ t.settingsMem = s.settingsMem ∧ t.cfg = s.cfg ∧
      t.bus = s.bus ∧ t.time = s.time ∧ t.cameras = s.cameras ∧ t.engine = s.engine ∧ t.loader = s.loader := by
  simp only [endCyclePulse]
  repeat' split
  all_goals simp

@[simp] theorem toggleLamp_frame (s : State) :
    let t := toggleLamp s
    t.pending = s.pending ∧ t.free = s.free ∧ t.sram = s.sram ∧ t.settingsMem = s.settingsMem ∧ t.cfg = s.cfg ∧
      t.bus = s.bus ∧ t.time = s.time ∧ t.track = s.track ∧ t.cameras = s.cameras ∧ t.reject = s.reject ∧
      t.robots = s.robots ∧ t.engine = s.engine ∧ t.field = s.field ∧ t.grant = s.grant ∧ t.switch = s.switch ∧
      t.notice = s.notice ∧ t.writer = s.writer ∧ t.loader = s.loader := by
  simp only [toggleLamp]
  repeat' split
  all_goals simp

@[simp] theorem generalRequest_frame (w : Word) (s : State) :
    let t := generalRequest w s
    t.pending = s.pending ∧ t.free = s.free ∧ t.sram = s.sram ∧ t.settingsMem = s.settingsMem ∧ t.cfg = s.cfg ∧
      t.bus = s.bus ∧ t.time = s.time ∧ t.track = s.track ∧ t.cameras = s.cameras ∧ t.reject = s.reject ∧
      t.robots = s.robots ∧ t.engine = s.engine ∧ t.field = s.field ∧ t.grant = s.grant ∧ t.switch = s.switch ∧
      t.writer = s.writer ∧ t.loader = s.loader := by
  simp only [generalRequest]
  repeat' split
  all_goals simp

@[simp] theorem setTimeState_frame (x : TimeState) (s : State) :
    let t := setTimeState x s
    t.pending = s.pending ∧ t.free = s.free ∧ t.sram = s.sram ∧ t.settingsMem = s.settingsMem ∧ t.cfg = s.cfg ∧
      t.bus = s.bus ∧ t.track = s.track ∧ t.cameras = s.cameras ∧ t.reject = s.reject ∧ t.robots = s.robots ∧
      t.engine = s.engine ∧ t.field = s.field ∧ t.grant = s.grant ∧ t.switch = s.switch ∧ t.lines = s.lines ∧
      t.loader = s.loader := by
  simp only [setTimeState]
  repeat' split
  all_goals simp

@[simp] theorem setLockRun_frame (n : Nat) (s : State) :
    let t := setLockRun n s
    t.pending = s.pending ∧ t.free = s.free ∧ t.sram = s.sram ∧ t.settingsMem = s.settingsMem ∧ t.cfg = s.cfg ∧
      t.bus = s.bus ∧ t.track = s.track ∧ t.cameras = s.cameras ∧ t.reject = s.reject ∧ t.robots = s.robots ∧
      t.engine = s.engine ∧ t.field = s.field ∧ t.grant = s.grant ∧ t.switch = s.switch ∧ t.lines = s.lines ∧
      t.notice = s.notice ∧ t.writer = s.writer ∧ t.loader = s.loader := by
  simp only [setLockRun]
  repeat' split
  all_goals simp

@[simp] theorem dropLock_frame (s : State) :
    let t := dropLock s
    t.pending = s.pending ∧ t.free = s.free ∧ t.sram = s.sram ∧ t.settingsMem = s.settingsMem ∧ t.cfg = s.cfg ∧
      t.bus = s.bus ∧ t.track = s.track ∧ t.cameras = s.cameras ∧ t.reject = s.reject ∧ t.robots = s.robots ∧
      t.engine = s.engine ∧ t.field = s.field ∧ t.grant = s.grant ∧ t.switch = s.switch ∧ t.lines = s.lines ∧
      t.loader = s.loader := by
  simp only [dropLock]
  repeat' split
  all_goals simp

@[simp] theorem holdoverEnds_frame (s : State) :
    let t := holdoverEnds s
    t.pending = s.pending ∧ t.free = s.free ∧ t.sram = s.sram ∧ t.settingsMem = s.settingsMem ∧ t.cfg = s.cfg ∧
      t.bus = s.bus ∧ t.track = s.track ∧ t.cameras = s.cameras ∧ t.reject = s.reject ∧ t.robots = s.robots ∧
      t.engine = s.engine ∧ t.field = s.field ∧ t.grant = s.grant ∧ t.switch = s.switch ∧ t.lines = s.lines ∧
      t.loader = s.loader := by
  simp only [holdoverEnds]
  repeat' split
  all_goals simp

@[simp] theorem restartHoldover_frame (s : State) :
    let t := restartHoldover s
    t.pending = s.pending ∧ t.free = s.free ∧ t.sram = s.sram ∧ t.settingsMem = s.settingsMem ∧ t.cfg = s.cfg ∧
      t.bus = s.bus ∧ t.track = s.track ∧ t.cameras = s.cameras ∧ t.reject = s.reject ∧ t.robots = s.robots ∧
      t.engine = s.engine ∧ t.field = s.field ∧ t.grant = s.grant ∧ t.switch = s.switch ∧ t.lines = s.lines ∧
      t.notice = s.notice ∧ t.writer = s.writer ∧ t.loader = s.loader := by
  simp only [restartHoldover]
  repeat' split
  all_goals simp

@[simp] theorem establishSchedule_frame (s : State) :
    let t := establishSchedule s
    t.pending = s.pending ∧ t.free = s.free ∧ t.sram = s.sram ∧ t.settingsMem = s.settingsMem ∧ t.cfg = s.cfg ∧
      t.bus = s.bus ∧ t.track = s.track ∧ t.cameras = s.cameras ∧ t.reject = s.reject ∧ t.robots = s.robots ∧
      t.engine = s.engine ∧ t.field = s.field ∧ t.grant = s.grant ∧ t.switch = s.switch ∧ t.lines = s.lines ∧
      t.notice = s.notice ∧ t.writer = s.writer ∧ t.loader = s.loader := by
  simp only [establishSchedule]
  repeat' split
  all_goals simp

@[simp] theorem stopSchedule_frame (s : State) :
    let t := stopSchedule s
    t.pending = s.pending ∧ t.free = s.free ∧ t.sram = s.sram ∧ t.settingsMem = s.settingsMem ∧ t.cfg = s.cfg ∧
      t.bus = s.bus ∧ t.track = s.track ∧ t.cameras = s.cameras ∧ t.reject = s.reject ∧ t.robots = s.robots ∧
      t.engine = s.engine ∧ t.field = s.field ∧ t.grant = s.grant ∧ t.switch = s.switch ∧ t.lines = s.lines ∧
      t.notice = s.notice ∧ t.writer = s.writer ∧ t.loader = s.loader := by
  simp only [stopSchedule]
  repeat' split
  all_goals simp

@[simp] theorem issueCycle_frame (n : Word) (t : Time) (s : State) :
    let t := issueCycle n t s
    t.pending = s.pending ∧ t.free = s.free ∧ t.sram = s.sram ∧ t.settingsMem = s.settingsMem ∧ t.cfg = s.cfg ∧
      t.bus = s.bus ∧ t.time = s.time ∧ t.cameras = s.cameras ∧ t.engine = s.engine ∧ t.grant = s.grant ∧
      t.switch = s.switch ∧ t.loader = s.loader := by
  simp only [issueCycle]
  repeat' split
  all_goals simp

@[simp] theorem cycleDue_frame (s : State) :
    let t := cycleDue s
    t.pending = s.pending ∧ t.free = s.free ∧ t.sram = s.sram ∧ t.settingsMem = s.settingsMem ∧ t.cfg = s.cfg ∧
      t.bus = s.bus ∧ t.cameras = s.cameras ∧ t.engine = s.engine ∧ t.grant = s.grant ∧ t.switch = s.switch ∧
      t.loader = s.loader := by
  simp only [cycleDue]
  repeat' split
  all_goals simp

@[simp] theorem shiftDeadlines_frame (o : BitVec 64) (s : State) :
    let t := shiftDeadlines o s
    t.pending = s.pending ∧ t.free = s.free ∧ t.sram = s.sram ∧ t.settingsMem = s.settingsMem ∧ t.cfg = s.cfg ∧
      t.bus = s.bus ∧ t.engine = s.engine ∧ t.field = s.field ∧ t.notice = s.notice ∧ t.writer = s.writer ∧
      t.loader = s.loader := by
  simp only [shiftDeadlines]
  repeat' split
  all_goals simp

@[simp] theorem realign_frame (was : Time) (s : State) :
    let t := realign was s
    t.pending = s.pending ∧ t.free = s.free ∧ t.sram = s.sram ∧ t.settingsMem = s.settingsMem ∧ t.cfg = s.cfg ∧
      t.bus = s.bus ∧ t.track = s.track ∧ t.cameras = s.cameras ∧ t.reject = s.reject ∧ t.robots = s.robots ∧
      t.engine = s.engine ∧ t.field = s.field ∧ t.grant = s.grant ∧ t.switch = s.switch ∧ t.lines = s.lines ∧
      t.loader = s.loader := by
  simp only [realign]
  repeat' split
  all_goals simp

@[simp] theorem stepTime_frame (o : BitVec 64) (s : State) :
    let t := stepTime o s
    t.pending = s.pending ∧ t.free = s.free ∧ t.sram = s.sram ∧ t.settingsMem = s.settingsMem ∧ t.cfg = s.cfg ∧
      t.bus = s.bus ∧ t.engine = s.engine ∧ t.field = s.field ∧ t.loader = s.loader := by
  simp only [stepTime]
  repeat' split
  all_goals simp

@[simp] theorem advanceLock_frame (g : TimeCfg) (o : Int) (s : State) :
    let t := advanceLock g o s
    t.pending = s.pending ∧ t.free = s.free ∧ t.sram = s.sram ∧ t.settingsMem = s.settingsMem ∧ t.cfg = s.cfg ∧
      t.bus = s.bus ∧ t.track = s.track ∧ t.cameras = s.cameras ∧ t.reject = s.reject ∧ t.robots = s.robots ∧
      t.engine = s.engine ∧ t.field = s.field ∧ t.grant = s.grant ∧ t.switch = s.switch ∧ t.lines = s.lines ∧
      t.loader = s.loader := by
  simp only [advanceLock]
  repeat' split
  all_goals simp

@[simp] theorem leaveFree_frame (o : BitVec 64) (s : State) :
    let t := leaveFree o s
    t.pending = s.pending ∧ t.free = s.free ∧ t.sram = s.sram ∧ t.settingsMem = s.settingsMem ∧ t.cfg = s.cfg ∧
      t.bus = s.bus ∧ t.engine = s.engine ∧ t.field = s.field ∧ t.loader = s.loader := by
  simp only [leaveFree]
  repeat' split
  all_goals simp

@[simp] theorem steer_frame (o : BitVec 64) (s : State) :
    let t := steer o s
    t.pending = s.pending ∧ t.free = s.free ∧ t.sram = s.sram ∧ t.settingsMem = s.settingsMem ∧ t.cfg = s.cfg ∧
      t.bus = s.bus ∧ t.engine = s.engine ∧ t.field = s.field ∧ t.loader = s.loader := by
  simp only [steer]
  repeat' split
  all_goals simp

@[simp] theorem judgeTime_frame (stamp : Time) (body : List Byte) (s : State) :
    let t := judgeTime stamp body s
    t.pending = s.pending ∧ t.free = s.free ∧ t.sram = s.sram ∧ t.settingsMem = s.settingsMem ∧ t.cfg = s.cfg ∧
      t.bus = s.bus ∧ t.engine = s.engine ∧ t.field = s.field ∧ t.loader = s.loader := by
  simp only [judgeTime]
  repeat' split
  all_goals simp

@[simp] theorem acceptTime_frame (stamp : Time) (body : List Byte) (s : State) :
    let t := acceptTime stamp body s
    t.pending = s.pending ∧ t.free = s.free ∧ t.sram = s.sram ∧ t.settingsMem = s.settingsMem ∧ t.cfg = s.cfg ∧
      t.bus = s.bus ∧ t.engine = s.engine ∧ t.field = s.field ∧ t.loader = s.loader := by
  simp only [acceptTime]
  repeat' split
  all_goals simp

@[simp] theorem captureRequest_frame (w : Word) (s : State) :
    let t := captureRequest w s
    t.pending = s.pending ∧ t.free = s.free ∧ t.sram = s.sram ∧ t.settingsMem = s.settingsMem ∧ t.cfg = s.cfg ∧
      t.bus = s.bus ∧ t.track = s.track ∧ t.cameras = s.cameras ∧ t.reject = s.reject ∧ t.robots = s.robots ∧
      t.engine = s.engine ∧ t.field = s.field ∧ t.grant = s.grant ∧ t.switch = s.switch ∧ t.lines = s.lines ∧
      t.loader = s.loader := by
  simp only [captureRequest]
  repeat' split
  all_goals simp

@[simp] theorem arriveFrame_frame (bytes : List Byte) (s : State) :
    let t := arriveFrame bytes s
    t.pending = s.pending ∧ t.free = s.free ∧ t.sram = s.sram ∧ t.settingsMem = s.settingsMem ∧ t.cfg = s.cfg ∧
      t.bus = s.bus ∧ t.time = s.time ∧ t.track = s.track ∧ t.cameras = s.cameras ∧ t.reject = s.reject ∧
      t.robots = s.robots ∧ t.engine = s.engine ∧ t.grant = s.grant ∧ t.switch = s.switch ∧ t.lines = s.lines ∧
      t.notice = s.notice ∧ t.writer = s.writer ∧ t.loader = s.loader := by
  simp only [arriveFrame]
  repeat' split
  all_goals simp

@[simp] theorem countChecked_frame (p : Fin 16) (good : Bool) (s : State) :
    let t := countChecked p good s
    t.pending = s.pending ∧ t.free = s.free ∧ t.sram = s.sram ∧ t.settingsMem = s.settingsMem ∧ t.cfg = s.cfg ∧
      t.bus = s.bus ∧ t.time = s.time ∧ t.track = s.track ∧ t.cameras = s.cameras ∧ t.reject = s.reject ∧
      t.robots = s.robots ∧ t.engine = s.engine ∧ t.field = s.field ∧ t.grant = s.grant ∧ t.lines = s.lines ∧
      t.notice = s.notice ∧ t.writer = s.writer ∧ t.loader = s.loader := by
  simp only [countChecked]
  repeat' split
  all_goals simp

@[simp] theorem handOn_frame (x : HeldFor) (stamp : Time) (bytes : List Byte) (s : State) :
    let t := handOn x stamp bytes s
    t.pending = s.pending ∧ t.free = s.free ∧ t.sram = s.sram ∧ t.settingsMem = s.settingsMem ∧ t.cfg = s.cfg ∧
      t.bus = s.bus ∧ t.engine = s.engine ∧ t.field = s.field ∧ t.loader = s.loader := by
  simp only [handOn]
  repeat' split
  all_goals simp

@[simp] theorem endStarted_frame (r : Fin 8) (good : Bool) (s : State) :
    let t := endStarted r good s
    t.pending = s.pending ∧ t.free = s.free ∧ t.sram = s.sram ∧ t.settingsMem = s.settingsMem ∧ t.cfg = s.cfg ∧
      t.bus = s.bus ∧ t.time = s.time ∧ t.cameras = s.cameras ∧ t.engine = s.engine ∧ t.grant = s.grant ∧
      t.switch = s.switch ∧ t.lines = s.lines ∧ t.loader = s.loader := by
  simp only [endStarted]
  repeat' split
  all_goals simp

@[simp] theorem endFrame_frame (rx : Receiving) (good : Bool) (s : State) :
    let t := endFrame rx good s
    t.pending = s.pending ∧ t.free = s.free ∧ t.sram = s.sram ∧ t.settingsMem = s.settingsMem ∧ t.cfg = s.cfg ∧
      t.bus = s.bus ∧ t.engine = s.engine ∧ t.loader = s.loader := by
  simp only [endFrame]
  repeat' split
  all_goals simp

@[simp] theorem endReception_frame (check : Option (BitVec 32)) (s : State) :
    let t := endReception check s
    t.pending = s.pending ∧ t.free = s.free ∧ t.sram = s.sram ∧ t.settingsMem = s.settingsMem ∧ t.cfg = s.cfg ∧
      t.bus = s.bus ∧ t.engine = s.engine ∧ t.loader = s.loader := by
  simp only [endReception]
  repeat' split
  all_goals simp

end Sys2Proof.Machine
end

