-- ==== Sys2Proof/Laws/FramesLoader.lean ====
section
/-! SUPPORT. Frames: for each operation of the Settings Loader, the requests and the Access Path, every field of State it leaves alone. -/

namespace Sys2Proof.Machine

open Sys2Proof

@[simp] theorem performRead_frame (a : Access) (s : State) :
    let t := performRead a s
    t.pending = s.pending ∧ t.free = s.free ∧ t.sram = s.sram ∧ t.settingsMem = s.settingsMem ∧ t.cfg = s.cfg ∧
      t.time = s.time ∧ t.track = s.track ∧ t.cameras = s.cameras ∧ t.reject = s.reject ∧ t.robots = s.robots ∧
      t.engine = s.engine ∧ t.field = s.field ∧ t.grant = s.grant ∧ t.switch = s.switch ∧ t.lines = s.lines ∧
      t.notice = s.notice ∧ t.writer = s.writer ∧ t.loader = s.loader := by
  simp only [performRead]
  repeat' split
  all_goals simp

@[simp] theorem beginJob_frame (s : State) :
    let t := beginJob s
    t.pending = s.pending ∧ t.free = s.free ∧ t.sram = s.sram ∧ t.settingsMem = s.settingsMem ∧ t.cfg = s.cfg ∧
      t.bus = s.bus ∧ t.time = s.time ∧ t.track = s.track ∧ t.cameras = s.cameras ∧ t.reject = s.reject ∧
      t.robots = s.robots ∧ t.engine = s.engine ∧ t.field = s.field ∧ t.grant = s.grant ∧ t.switch = s.switch ∧
      t.lines = s.lines ∧ t.notice = s.notice ∧ t.loader = s.loader := by
  simp only [beginJob]
  repeat' split
  all_goals simp

@[simp] theorem endJob_frame (j : Job) (s : State) :
    let t := endJob j s
    t.pending = s.pending ∧ t.free = s.free ∧ t.sram = s.sram ∧ t.settingsMem = s.settingsMem ∧ t.cfg = s.cfg ∧
      t.bus = s.bus ∧ t.time = s.time ∧ t.track = s.track ∧ t.cameras = s.cameras ∧ t.robots = s.robots ∧
      t.engine = s.engine ∧ t.field = s.field ∧ t.grant = s.grant ∧ t.switch = s.switch ∧ t.lines = s.lines := by
  simp only [endJob]
  repeat' split
  all_goals simp

@[simp] theorem readStaged_frame (s : State) :
    let t := readStaged s
    t.pending = s.pending ∧ t.free = s.free ∧ t.sram = s.sram ∧ t.settingsMem = s.settingsMem ∧ t.cfg = s.cfg ∧
      t.bus = s.bus ∧ t.time = s.time ∧ t.track = s.track ∧ t.cameras = s.cameras ∧ t.robots = s.robots ∧
      t.engine = s.engine ∧ t.field = s.field ∧ t.grant = s.grant ∧ t.switch = s.switch ∧ t.lines = s.lines := by
  simp only [readStaged]
  repeat' split
  all_goals simp

@[simp] theorem writeNext_frame (w : Writing) (s : State) :
    let t := writeNext w s
    t.pending = s.pending ∧ t.free = s.free ∧ t.settingsMem = s.settingsMem ∧ t.cfg = s.cfg ∧ t.bus = s.bus ∧
      t.time = s.time ∧ t.track = s.track ∧ t.cameras = s.cameras ∧ t.robots = s.robots ∧ t.engine = s.engine ∧
      t.field = s.field ∧ t.grant = s.grant ∧ t.switch = s.switch ∧ t.lines = s.lines := by
  simp only [writeNext]
  repeat' split
  all_goals simp

@[simp] theorem writerSlot_frame (s : State) :
    let t := writerSlot s
    t.pending = s.pending ∧ t.free = s.free ∧ t.settingsMem = s.settingsMem ∧ t.cfg = s.cfg ∧ t.bus = s.bus ∧
      t.time = s.time ∧ t.track = s.track ∧ t.cameras = s.cameras ∧ t.robots = s.robots ∧ t.engine = s.engine ∧
      t.field = s.field ∧ t.grant = s.grant ∧ t.switch = s.switch ∧ t.lines = s.lines := by
  simp only [writerSlot]
  repeat' split
  all_goals simp

@[simp] theorem agentSlot_frame (g : Requester) (s : State) :
    let t := agentSlot g s
    t.pending = s.pending ∧ t.free = s.free ∧ t.settingsMem = s.settingsMem ∧ t.cfg = s.cfg ∧ t.bus = s.bus ∧
      t.time = s.time ∧ t.track = s.track ∧ t.cameras = s.cameras ∧ t.grant = s.grant ∧ t.switch = s.switch ∧
      t.lines = s.lines := by
  simp only [agentSlot]
  repeat' split
  all_goals simp

@[simp] theorem agentTurn_frame (g : Requester) (s : State) :
    let t := agentTurn g s
    t.pending = s.pending ∧ t.free = s.free ∧ t.settingsMem = s.settingsMem ∧ t.cfg = s.cfg ∧ t.time = s.time ∧
      t.track = s.track ∧ t.cameras = s.cameras ∧ t.grant = s.grant ∧ t.switch = s.switch ∧ t.lines = s.lines := by
  simp only [agentTurn]
  repeat' split
  all_goals simp

@[simp] theorem slotIfLate_frame (s : State) (g : Requester) :
    let t := slotIfLate s g
    t.pending = s.pending ∧ t.free = s.free ∧ t.settingsMem = s.settingsMem ∧ t.cfg = s.cfg ∧ t.time = s.time ∧
      t.track = s.track ∧ t.cameras = s.cameras ∧ t.grant = s.grant ∧ t.switch = s.switch ∧ t.lines = s.lines := by
  simp only [slotIfLate]
  repeat' split
  all_goals simp

@[simp] theorem releasedSlot_frame (s : State) :
    let t := releasedSlot s
    t.pending = s.pending ∧ t.free = s.free ∧ t.settingsMem = s.settingsMem ∧ t.cfg = s.cfg ∧ t.time = s.time ∧
      t.track = s.track ∧ t.cameras = s.cameras ∧ t.grant = s.grant ∧ t.switch = s.switch ∧ t.lines = s.lines := by
  simp only [releasedSlot]
  repeat' split
  all_goals simp

@[simp] theorem startReload_frame (store : Bool) (s : State) :
    let t := startReload store s
    t.pending = s.pending ∧ t.free = s.free ∧ t.sram = s.sram ∧ t.settingsMem = s.settingsMem ∧ t.cfg = s.cfg ∧
      t.cameras = s.cameras ∧ t.reject = s.reject ∧ t.engine = s.engine ∧ t.grant = s.grant ∧ t.switch = s.switch ∧
      t.lines = s.lines ∧ t.notice = s.notice := by
  simp only [startReload]
  repeat' split
  all_goals simp

@[simp] theorem watchedControl_frame (w : Word) (s : State) :
    let t := watchedControl w s
    t.pending = s.pending ∧ t.free = s.free ∧ t.sram = s.sram ∧ t.settingsMem = s.settingsMem ∧ t.cfg = s.cfg ∧
      t.cameras = s.cameras ∧ t.reject = s.reject ∧ t.engine = s.engine ∧ t.grant = s.grant ∧ t.switch = s.switch ∧
      t.lines = s.lines ∧ t.notice = s.notice := by
  simp only [watchedControl]
  repeat' split
  all_goals simp

@[simp] theorem enterFault_frame (x : ImageFault) (s : State) :
    let t := enterFault x s
    t.pending = s.pending ∧ t.free = s.free ∧ t.sram = s.sram ∧ t.settingsMem = s.settingsMem ∧ t.cfg = s.cfg ∧
      t.time = s.time ∧ t.track = s.track ∧ t.cameras = s.cameras ∧ t.reject = s.reject ∧ t.robots = s.robots ∧
      t.engine = s.engine ∧ t.field = s.field ∧ t.grant = s.grant ∧ t.switch = s.switch ∧ t.lines = s.lines ∧
      t.notice = s.notice ∧ t.writer = s.writer := by
  simp only [enterFault]
  repeat' split
  all_goals simp

@[simp] theorem startCopies_frame (c : Settings) (s : State) :
    let t := startCopies c s
    t.pending = s.pending ∧ t.free = s.free ∧ t.sram = s.sram ∧ t.settingsMem = s.settingsMem ∧ t.cfg = s.cfg ∧
      t.bus = s.bus ∧ t.time = s.time ∧ t.track = s.track ∧ t.cameras = s.cameras ∧ t.reject = s.reject ∧
      t.robots = s.robots ∧ t.engine = s.engine ∧ t.field = s.field ∧ t.grant = s.grant ∧ t.switch = s.switch ∧
      t.lines = s.lines ∧ t.notice = s.notice := by
  simp only [startCopies]
  repeat' split
  all_goals simp

@[simp] theorem rejectReload_frame (x : ImageFault) (s : State) :
    let t := rejectReload x s
    t.pending = s.pending ∧ t.sram = s.sram ∧ t.settingsMem = s.settingsMem ∧ t.cfg = s.cfg ∧ t.cameras = s.cameras ∧
      t.robots = s.robots ∧ t.engine = s.engine ∧ t.field = s.field ∧ t.grant = s.grant ∧ t.switch = s.switch ∧
      t.lines = s.lines := by
  simp only [rejectReload]
  repeat' split
  all_goals simp

@[simp] theorem releaseHeldRead_frame (s : State) :
    let t := releaseHeldRead s
    t.pending = s.pending ∧ t.free = s.free ∧ t.settingsMem = s.settingsMem ∧ t.cfg = s.cfg ∧ t.time = s.time ∧
      t.track = s.track ∧ t.cameras = s.cameras ∧ t.grant = s.grant ∧ t.switch = s.switch ∧ t.lines = s.lines := by
  simp only [releaseHeldRead]
  repeat' split
  all_goals simp

@[simp] theorem moveNotices_frame (c : Settings) (s : State) :
    let t := moveNotices c s
    t.pending = s.pending ∧ t.free = s.free ∧ t.sram = s.sram ∧ t.settingsMem = s.settingsMem ∧ t.cfg = s.cfg ∧
      t.time = s.time ∧ t.track = s.track ∧ t.cameras = s.cameras ∧ t.reject = s.reject ∧
      t.robots = s.robots ∧ t.engine = s.engine ∧ t.field = s.field ∧ t.grant = s.grant ∧ t.switch = s.switch ∧
      t.lines = s.lines ∧ t.loader = s.loader := by
  simp only [moveNotices]
  repeat' split
  all_goals simp

@[simp] theorem reloadLines_frame (c : Settings) (s : State) :
    let t := reloadLines c s
    t.pending = s.pending ∧ t.free = s.free ∧ t.sram = s.sram ∧ t.settingsMem = s.settingsMem ∧ t.cfg = s.cfg ∧
      t.bus = s.bus ∧ t.time = s.time ∧ t.track = s.track ∧ t.cameras = s.cameras ∧ t.reject = s.reject ∧
      t.robots = s.robots ∧ t.engine = s.engine ∧ t.field = s.field ∧ t.grant = s.grant ∧ t.switch = s.switch ∧
      t.notice = s.notice ∧ t.writer = s.writer ∧ t.loader = s.loader := by
  simp only [reloadLines]
  repeat' split
  all_goals simp

@[simp] theorem reloadRobot_frame (r : Fin 8) (s : State) :
    let t := reloadRobot r s
    t.pending = s.pending ∧ t.free = s.free ∧ t.sram = s.sram ∧ t.settingsMem = s.settingsMem ∧ t.cfg = s.cfg ∧
      t.bus = s.bus ∧ t.time = s.time ∧ t.track = s.track ∧ t.cameras = s.cameras ∧ t.reject = s.reject ∧
      t.engine = s.engine ∧ t.field = s.field ∧ t.grant = s.grant ∧ t.switch = s.switch ∧ t.lines = s.lines ∧
      t.loader = s.loader := by
  simp only [reloadRobot]
  repeat' split
  all_goals simp

@[simp] theorem stopExchange_frame (s : State) :
    let t := stopExchange s
    t.pending = s.pending ∧ t.free = s.free ∧ t.sram = s.sram ∧ t.settingsMem = s.settingsMem ∧ t.cfg = s.cfg ∧
      t.bus = s.bus ∧ t.time = s.time ∧ t.track = s.track ∧ t.cameras = s.cameras ∧ t.reject = s.reject ∧
      t.robots = s.robots ∧ t.grant = s.grant ∧ t.switch = s.switch ∧ t.lines = s.lines ∧ t.notice = s.notice ∧
      t.writer = s.writer ∧ t.loader = s.loader := by
  simp only [stopExchange]
  repeat' split
  all_goals simp

@[simp] theorem takeEffect_frame (o c : Settings) (s : State) :
    let t := takeEffect o c s
    t.pending = s.pending ∧ t.free = s.free ∧ t.settingsMem = s.settingsMem := by
  simp only [takeEffect]
  repeat' split
  all_goals simp

@[simp] theorem endCheck_frame (ws : List Word) (s : State) :
    let t := endCheck ws s
    t.pending = s.pending ∧ t.settingsMem = s.settingsMem := by
  simp only [endCheck]
  repeat' split
  all_goals simp

@[simp] theorem imageCheckEnd_frame (answers : Bool) (s : State) :
    let t := imageCheckEnd answers s
    t.pending = s.pending ∧ t.settingsMem = s.settingsMem := by
  simp only [imageCheckEnd]
  repeat' split
  all_goals simp

@[simp] theorem startStatuses_frame (s : State) :
    let t := startStatuses s
    t.pending = s.pending ∧ t.free = s.free ∧ t.sram = s.sram ∧ t.settingsMem = s.settingsMem ∧ t.cfg = s.cfg ∧
      t.bus = s.bus ∧ t.time = s.time ∧ t.track = s.track ∧ t.cameras = s.cameras ∧ t.reject = s.reject ∧
      t.robots = s.robots ∧ t.engine = s.engine ∧ t.field = s.field ∧ t.grant = s.grant ∧ t.switch = s.switch ∧
      t.lines = s.lines ∧ t.writer = s.writer ∧ t.loader = s.loader := by
  simp only [startStatuses]
  repeat' split
  all_goals simp

@[simp] theorem firstEntry_frame (c : Settings) (s : State) :
    let t := firstEntry c s
    t.pending = s.pending ∧ t.free = s.free ∧ t.sram = s.sram ∧ t.settingsMem = s.settingsMem ∧ t.bus = s.bus ∧
      t.time = s.time ∧ t.cameras = s.cameras ∧ t.engine = s.engine ∧ t.loader = s.loader := by
  simp only [firstEntry]
  repeat' split
  all_goals simp

@[simp] theorem becomeActive_frame (c : Settings) (s : State) :
    let t := becomeActive c s
    t.pending = s.pending ∧ t.free = s.free ∧ t.sram = s.sram ∧ t.settingsMem = s.settingsMem ∧ t.cfg = s.cfg ∧
      t.cameras = s.cameras ∧ t.reject = s.reject ∧ t.robots = s.robots ∧ t.engine = s.engine ∧ t.field = s.field ∧
      t.grant = s.grant ∧ t.switch = s.switch ∧ t.lines = s.lines := by
  simp only [becomeActive]
  repeat' split
  all_goals simp

@[simp] theorem activeEntry_frame (s : State) :
    let t := activeEntry s
    t.pending = s.pending ∧ t.free = s.free ∧ t.sram = s.sram ∧ t.settingsMem = s.settingsMem ∧
      t.cameras = s.cameras ∧ t.engine = s.engine := by
  simp only [activeEntry]
  repeat' split
  all_goals simp

@[simp] theorem storeComplete_frame (s : State) :
    let t := storeComplete s
    t.pending = s.pending ∧ t.free = s.free ∧ t.sram = s.sram ∧ t.cfg = s.cfg ∧ t.time = s.time ∧ t.track = s.track ∧
      t.cameras = s.cameras ∧ t.reject = s.reject ∧ t.robots = s.robots ∧ t.engine = s.engine ∧ t.field = s.field ∧
      t.grant = s.grant ∧ t.switch = s.switch ∧ t.lines = s.lines ∧ t.notice = s.notice ∧ t.writer = s.writer := by
  simp only [storeComplete]
  repeat' split
  all_goals simp

@[simp] theorem storeFailed_frame (f : StoreFault) (s : State) :
    let t := storeFailed f s
    t.pending = s.pending ∧ t.free = s.free ∧ t.sram = s.sram ∧ t.cfg = s.cfg ∧ t.time = s.time ∧ t.track = s.track ∧
      t.cameras = s.cameras ∧ t.reject = s.reject ∧ t.robots = s.robots ∧ t.engine = s.engine ∧ t.field = s.field ∧
      t.grant = s.grant ∧ t.switch = s.switch ∧ t.lines = s.lines := by
  simp only [storeFailed]
  repeat' split
  all_goals simp

@[simp] theorem ignorePolicy_frame (reason w : Word) (s : State) :
    let t := ignorePolicy reason w s
    t.pending = s.pending ∧ t.free = s.free ∧ t.sram = s.sram ∧ t.settingsMem = s.settingsMem ∧ t.cfg = s.cfg ∧
      t.bus = s.bus ∧ t.time = s.time ∧ t.track = s.track ∧ t.cameras = s.cameras ∧ t.reject = s.reject ∧
      t.robots = s.robots ∧ t.engine = s.engine ∧ t.field = s.field ∧ t.grant = s.grant ∧ t.switch = s.switch ∧
      t.lines = s.lines ∧ t.loader = s.loader := by
  simp only [ignorePolicy]
  repeat' split
  all_goals simp

@[simp] theorem takePolicy_frame (p : Policy) (s : State) :
    let t := takePolicy p s
    t.pending = s.pending ∧ t.free = s.free ∧ t.sram = s.sram ∧ t.settingsMem = s.settingsMem ∧ t.cfg = s.cfg ∧
      t.bus = s.bus ∧ t.time = s.time ∧ t.track = s.track ∧ t.cameras = s.cameras ∧ t.robots = s.robots ∧
      t.engine = s.engine ∧ t.field = s.field ∧ t.grant = s.grant ∧ t.switch = s.switch ∧ t.lines = s.lines ∧
      t.loader = s.loader := by
  simp only [takePolicy]
  repeat' split
  all_goals simp

@[simp] theorem policyRequest_frame (w : Word) (s : State) :
    let t := policyRequest w s
    t.pending = s.pending ∧ t.free = s.free ∧ t.sram = s.sram ∧ t.settingsMem = s.settingsMem ∧ t.cfg = s.cfg ∧
      t.bus = s.bus ∧ t.time = s.time ∧ t.track = s.track ∧ t.cameras = s.cameras ∧ t.robots = s.robots ∧
      t.engine = s.engine ∧ t.field = s.field ∧ t.grant = s.grant ∧ t.switch = s.switch ∧ t.lines = s.lines ∧
      t.loader = s.loader := by
  simp only [policyRequest]
  repeat' split
  all_goals simp

@[simp] theorem markLowRequest_frame (w : Word) (s : State) :
    let t := markLowRequest w s
    t.pending = s.pending ∧ t.free = s.free ∧ t.sram = s.sram ∧ t.settingsMem = s.settingsMem ∧ t.cfg = s.cfg ∧
      t.bus = s.bus ∧ t.time = s.time ∧ t.cameras = s.cameras ∧ t.reject = s.reject ∧ t.robots = s.robots ∧
      t.engine = s.engine ∧ t.field = s.field ∧ t.grant = s.grant ∧ t.switch = s.switch ∧ t.lines = s.lines ∧
      t.writer = s.writer ∧ t.loader = s.loader := by
  simp only [markLowRequest]
  repeat' split
  all_goals simp

@[simp] theorem markRequest_frame (w : Word) (s : State) :
    let t := markRequest w s
    t.pending = s.pending ∧ t.free = s.free ∧ t.sram = s.sram ∧ t.settingsMem = s.settingsMem ∧ t.cfg = s.cfg ∧
      t.bus = s.bus ∧ t.time = s.time ∧ t.cameras = s.cameras ∧ t.robots = s.robots ∧ t.engine = s.engine ∧
      t.field = s.field ∧ t.grant = s.grant ∧ t.switch = s.switch ∧ t.lines = s.lines ∧ t.loader = s.loader := by
  simp only [markRequest]
  repeat' split
  all_goals simp

@[simp] theorem outcomeReadRequest_frame (w : Word) (s : State) :
    let t := outcomeReadRequest w s
    t.pending = s.pending ∧ t.free = s.free ∧ t.sram = s.sram ∧ t.settingsMem = s.settingsMem ∧ t.cfg = s.cfg ∧
      t.bus = s.bus ∧ t.time = s.time ∧ t.track = s.track ∧ t.cameras = s.cameras ∧ t.robots = s.robots ∧
      t.engine = s.engine ∧ t.field = s.field ∧ t.grant = s.grant ∧ t.switch = s.switch ∧ t.lines = s.lines ∧
      t.loader = s.loader := by
  simp only [outcomeReadRequest]
  repeat' split
  all_goals simp

@[simp] theorem eventReadRequest_frame (w : Word) (s : State) :
    let t := eventReadRequest w s
    t.pending = s.pending ∧ t.free = s.free ∧ t.sram = s.sram ∧ t.settingsMem = s.settingsMem ∧ t.cfg = s.cfg ∧
      t.bus = s.bus ∧ t.time = s.time ∧ t.track = s.track ∧ t.cameras = s.cameras ∧ t.reject = s.reject ∧
      t.robots = s.robots ∧ t.engine = s.engine ∧ t.field = s.field ∧ t.grant = s.grant ∧ t.switch = s.switch ∧
      t.lines = s.lines ∧ t.loader = s.loader := by
  simp only [eventReadRequest]
  repeat' split
  all_goals simp

@[simp] theorem ignoreControl_frame (reason w : Word) (s : State) :
    let t := ignoreControl reason w s
    t.pending = s.pending ∧ t.free = s.free ∧ t.sram = s.sram ∧ t.settingsMem = s.settingsMem ∧ t.cfg = s.cfg ∧
      t.bus = s.bus ∧ t.time = s.time ∧ t.track = s.track ∧ t.cameras = s.cameras ∧ t.reject = s.reject ∧
      t.robots = s.robots ∧ t.engine = s.engine ∧ t.field = s.field ∧ t.grant = s.grant ∧ t.switch = s.switch ∧
      t.lines = s.lines ∧ t.loader = s.loader := by
  simp only [ignoreControl]
  repeat' split
  all_goals simp

@[simp] theorem lineResetRequest_frame (s : State) :
    let t := lineResetRequest s
    t.pending = s.pending ∧ t.free = s.free ∧ t.sram = s.sram ∧ t.settingsMem = s.settingsMem ∧ t.cfg = s.cfg ∧
      t.bus = s.bus ∧ t.time = s.time ∧ t.robots = s.robots ∧ t.engine = s.engine ∧ t.field = s.field ∧
      t.grant = s.grant ∧ t.switch = s.switch ∧ t.lines = s.lines ∧ t.loader = s.loader := by
  simp only [lineResetRequest]
  repeat' split
  all_goals simp

@[simp] theorem reloadRequest_frame (store : Bool) (w : Word) (s : State) :
    let t := reloadRequest store w s
    t.pending = s.pending ∧ t.free = s.free ∧ t.sram = s.sram ∧ t.settingsMem = s.settingsMem ∧ t.cfg = s.cfg ∧
      t.cameras = s.cameras ∧ t.reject = s.reject ∧ t.engine = s.engine ∧ t.grant = s.grant ∧ t.switch = s.switch ∧
      t.lines = s.lines := by
  simp only [reloadRequest]
  repeat' split
  all_goals simp

@[simp] theorem rearmRequest_frame (s : State) :
    let t := rearmRequest s
    t.pending = s.pending ∧ t.free = s.free ∧ t.sram = s.sram ∧ t.settingsMem = s.settingsMem ∧ t.cfg = s.cfg ∧
      t.time = s.time ∧ t.track = s.track ∧ t.cameras = s.cameras ∧ t.reject = s.reject ∧ t.robots = s.robots ∧
      t.engine = s.engine ∧ t.field = s.field ∧ t.grant = s.grant ∧ t.switch = s.switch ∧ t.lines = s.lines ∧
      t.loader = s.loader := by
  simp only [rearmRequest]
  repeat' split
  all_goals simp

@[simp] theorem controlRequest_frame (w : Word) (s : State) :
    let t := controlRequest w s
    t.pending = s.pending ∧ t.free = s.free ∧ t.sram = s.sram ∧ t.settingsMem = s.settingsMem ∧ t.cfg = s.cfg ∧
      t.engine = s.engine ∧ t.grant = s.grant ∧ t.switch = s.switch ∧ t.lines = s.lines := by
  simp only [controlRequest]
  repeat' split
  all_goals simp

@[simp] theorem requestAction_frame (i : Fin 26) (w : Word) (s : State) :
    let t := requestAction i w s
    t.pending = s.pending ∧ t.free = s.free ∧ t.sram = s.sram ∧ t.settingsMem = s.settingsMem ∧ t.cfg = s.cfg := by
  simp only [requestAction]
  repeat' split
  all_goals simp

@[simp] theorem refuse_frame (a : Access) (c : Cause) (s : State) :
    let t := refuse a c s
    t.pending = s.pending ∧ t.free = s.free ∧ t.sram = s.sram ∧ t.settingsMem = s.settingsMem ∧ t.cfg = s.cfg ∧
      t.time = s.time ∧ t.track = s.track ∧ t.cameras = s.cameras ∧ t.reject = s.reject ∧ t.robots = s.robots ∧
      t.engine = s.engine ∧ t.field = s.field ∧ t.grant = s.grant ∧ t.switch = s.switch ∧ t.lines = s.lines ∧
      t.writer = s.writer ∧ t.loader = s.loader := by
  simp only [refuse]
  repeat' split
  all_goals simp

@[simp] theorem storeLanes_frame (a : Access) (s : State) :
    let t := storeLanes a s
    t.pending = s.pending ∧ t.free = s.free ∧ t.settingsMem = s.settingsMem ∧ t.cfg = s.cfg ∧ t.bus = s.bus ∧
      t.time = s.time ∧ t.track = s.track ∧ t.cameras = s.cameras ∧ t.reject = s.reject ∧ t.robots = s.robots ∧
      t.engine = s.engine ∧ t.field = s.field ∧ t.grant = s.grant ∧ t.switch = s.switch ∧ t.lines = s.lines ∧
      t.notice = s.notice ∧ t.writer = s.writer ∧ t.loader = s.loader := by
  simp only [storeLanes]
  repeat' split
  all_goals simp

@[simp] theorem writeFlags_frame (a : Access) (s : State) :
    let t := writeFlags a s
    t.pending = s.pending ∧ t.free = s.free ∧ t.settingsMem = s.settingsMem ∧ t.cfg = s.cfg ∧ t.bus = s.bus ∧
      t.time = s.time ∧ t.track = s.track ∧ t.cameras = s.cameras ∧ t.reject = s.reject ∧ t.robots = s.robots ∧
      t.engine = s.engine ∧ t.field = s.field ∧ t.grant = s.grant ∧ t.switch = s.switch ∧ t.lines = s.lines ∧
      t.writer = s.writer ∧ t.loader = s.loader := by
  simp only [writeFlags]
  repeat' split
  all_goals simp

@[simp] theorem writeEnables_frame (a : Access) (s : State) :
    let t := writeEnables a s
    t.pending = s.pending ∧ t.free = s.free ∧ t.settingsMem = s.settingsMem ∧ t.cfg = s.cfg ∧ t.bus = s.bus ∧
      t.time = s.time ∧ t.track = s.track ∧ t.cameras = s.cameras ∧ t.reject = s.reject ∧ t.robots = s.robots ∧
      t.engine = s.engine ∧ t.field = s.field ∧ t.grant = s.grant ∧ t.switch = s.switch ∧ t.lines = s.lines ∧
      t.writer = s.writer ∧ t.loader = s.loader := by
  simp only [writeEnables]
  repeat' split
  all_goals simp

@[simp] theorem writeGlobal_frame (a : Access) (s : State) :
    let t := writeGlobal a s
    t.pending = s.pending ∧ t.free = s.free ∧ t.settingsMem = s.settingsMem ∧ t.cfg = s.cfg ∧ t.bus = s.bus ∧
      t.time = s.time ∧ t.track = s.track ∧ t.cameras = s.cameras ∧ t.reject = s.reject ∧ t.robots = s.robots ∧
      t.engine = s.engine ∧ t.field = s.field ∧ t.grant = s.grant ∧ t.switch = s.switch ∧ t.lines = s.lines ∧
      t.writer = s.writer ∧ t.loader = s.loader := by
  simp only [writeGlobal]
  repeat' split
  all_goals simp

@[simp] theorem writeRequest_frame (i : Fin 26) (a : Access) (s : State) :
    let t := writeRequest i a s
    t.pending = s.pending ∧ t.free = s.free ∧ t.settingsMem = s.settingsMem ∧ t.cfg = s.cfg := by
  simp only [writeRequest]
  repeat' split
  all_goals simp

@[simp] theorem writeWatched_frame (a : Access) (s : State) :
    let t := writeWatched a s
    t.pending = s.pending ∧ t.free = s.free ∧ t.settingsMem = s.settingsMem ∧ t.cfg = s.cfg ∧ t.cameras = s.cameras ∧
      t.reject = s.reject ∧ t.engine = s.engine ∧ t.grant = s.grant ∧ t.switch = s.switch ∧ t.lines = s.lines ∧
      t.notice = s.notice := by
  simp only [writeWatched]
  repeat' split
  all_goals simp

@[simp] theorem performWrite_frame (a : Access) (s : State) :
    let t := performWrite a s
    t.pending = s.pending ∧ t.free = s.free ∧ t.settingsMem = s.settingsMem ∧ t.cfg = s.cfg := by
  simp only [performWrite]
  repeat' split
  all_goals simp

@[simp] theorem completeAccess_frame (a : Access) (s : State) :
    let t := completeAccess a s
    t.pending = s.pending ∧ t.free = s.free ∧ t.settingsMem = s.settingsMem ∧ t.cfg = s.cfg := by
  simp only [completeAccess]
  repeat' split
  all_goals simp

@[simp] theorem processorSlot_frame (a : Access) (s : State) :
    let t := processorSlot a s
    t.pending = s.pending ∧ t.free = s.free ∧ t.settingsMem = s.settingsMem ∧ t.cfg = s.cfg := by
  simp only [processorSlot]
  repeat' split
  all_goals simp

@[simp] theorem finishAccess_frame (a : Access) (s : State) :
    let t := finishAccess a s
    t.pending = s.pending ∧ t.free = s.free ∧ t.settingsMem = s.settingsMem ∧ t.cfg = s.cfg := by
  simp only [finishAccess]
  repeat' split
  all_goals simp

@[simp] theorem freeSlot_frame (s : State) :
    let t := freeSlot s
    t.pending = s.pending ∧ t.free = s.free ∧ t.settingsMem = s.settingsMem ∧ t.cfg = s.cfg ∧ t.time = s.time ∧
      t.track = s.track ∧ t.cameras = s.cameras ∧ t.grant = s.grant ∧ t.switch = s.switch ∧ t.lines = s.lines := by
  simp only [freeSlot]
  repeat' split
  all_goals simp

@[simp] theorem processorTurn_frame (a : Access) (s : State) :
    let t := processorTurn a s
    t.pending = s.pending ∧ t.free = s.free ∧ t.settingsMem = s.settingsMem ∧ t.cfg = s.cfg := by
  simp only [processorTurn]
  repeat' split
  all_goals simp

@[simp] theorem memorySlotStep_frame (s : State) :
    let t := memorySlotStep s
    t.pending = s.pending ∧ t.free = s.free ∧ t.settingsMem = s.settingsMem ∧ t.cfg = s.cfg := by
  simp only [memorySlotStep]
  repeat' split
  all_goals simp

@[simp] theorem presentAccess_frame (write : Bool) (addr : Nat) (l : Lanes) (w : Word) (s : State) :
    let t := presentAccess write addr l w s
    t.pending = s.pending ∧ t.free = s.free ∧ t.sram = s.sram ∧ t.settingsMem = s.settingsMem ∧ t.cfg = s.cfg ∧
      t.time = s.time ∧ t.track = s.track ∧ t.cameras = s.cameras ∧ t.reject = s.reject ∧ t.robots = s.robots ∧
      t.engine = s.engine ∧ t.field = s.field ∧ t.grant = s.grant ∧ t.switch = s.switch ∧ t.lines = s.lines ∧
      t.writer = s.writer ∧ t.loader = s.loader := by
  simp only [presentAccess]
  repeat' split
  all_goals simp

@[simp] theorem tryComplete_frame (a : Access) (s : State) :
    let t := tryComplete a s
    t.pending = s.pending ∧ t.free = s.free ∧ t.settingsMem = s.settingsMem ∧ t.cfg = s.cfg := by
  simp only [tryComplete]
  repeat' split
  all_goals simp

@[simp] theorem processorWrite_frame (addr : Nat) (l : Lanes) (w : Word) (s : State) :
    let t := processorWrite addr l w s
    t.pending = s.pending ∧ t.free = s.free ∧ t.settingsMem = s.settingsMem ∧ t.cfg = s.cfg := by
  simp only [processorWrite]
  repeat' split
  all_goals simp

@[simp] theorem requestWrite_frame (i : Fin 26) (w : Word) (s : State) :
    let t := requestWrite i w s
    t.pending = s.pending ∧ t.free = s.free ∧ t.settingsMem = s.settingsMem ∧ t.cfg = s.cfg := by
  simp only [requestWrite]
  repeat' split
  all_goals simp

@[simp] theorem releaseHeld_frame (r : Fin 8) (s : State) :
    let t := releaseHeld r s
    t.pending = s.pending ∧ t.free = s.free ∧ t.settingsMem = s.settingsMem ∧ t.cfg = s.cfg := by
  simp only [releaseHeld]
  repeat' split
  all_goals simp

@[simp] theorem rewriteHandover_frame (r : Fin 8) (s : State) :
    let t := rewriteHandover r s
    t.pending = s.pending ∧ t.free = s.free ∧ t.sram = s.sram ∧ t.settingsMem = s.settingsMem ∧ t.cfg = s.cfg ∧
      t.bus = s.bus ∧ t.time = s.time ∧ t.track = s.track ∧ t.cameras = s.cameras ∧ t.reject = s.reject ∧
      t.robots = s.robots ∧ t.engine = s.engine ∧ t.field = s.field ∧ t.grant = s.grant ∧ t.switch = s.switch ∧
      t.lines = s.lines ∧ t.loader = s.loader := by
  simp only [rewriteHandover]
  repeat' split
  all_goals simp

@[simp] theorem completeCheck_frame (s : State) :
    let t := completeCheck s
    t.pending = s.pending ∧ t.free = s.free ∧ t.settingsMem = s.settingsMem ∧ t.cfg = s.cfg := by
  simp only [completeCheck]
  repeat' split
  all_goals simp

@[simp] theorem stopTimeout_frame (s : State) :
    let t := stopTimeout s
    t.pending = s.pending ∧ t.free = s.free ∧ t.sram = s.sram ∧ t.settingsMem = s.settingsMem ∧ t.cfg = s.cfg ∧
      t.bus = s.bus ∧ t.time = s.time ∧ t.cameras = s.cameras ∧ t.robots = s.robots ∧ t.engine = s.engine ∧
      t.field = s.field ∧ t.grant = s.grant ∧ t.switch = s.switch ∧ t.lines = s.lines ∧ t.loader = s.loader := by
  simp only [stopTimeout]
  repeat' split
  all_goals simp

@[simp] theorem fireDue_frame (s : State) :
    let t := fireDue s
    t.pending = s.pending ∧ t.free = s.free ∧ t.sram = s.sram ∧ t.settingsMem = s.settingsMem ∧ t.cfg = s.cfg ∧
      t.bus = s.bus ∧ t.time = s.time ∧ t.cameras = s.cameras ∧ t.robots = s.robots ∧ t.engine = s.engine ∧
      t.field = s.field ∧ t.grant = s.grant ∧ t.switch = s.switch ∧ t.lines = s.lines ∧ t.loader = s.loader := by
  simp only [fireDue]
  repeat' split
  all_goals simp

end Sys2Proof.Machine
end

