-- ==== Sys2Proof/Laws/Memory.lean ====
section
/-! SUPPORT. Memory: a read after a write, the bytes a write leaves alone, and the canonical form kept by every
operation. -/

namespace Sys2Proof.Machine

open Sys2Proof

/-! ### Reads after writes -/

/-- Below the first listed address every byte reads as 0. -/
theorem readByte_below (l : Memory) (k j : Nat) (u : Byte) (h : Memory.wf ((k, u) :: l) = true) (hj : j ≤ k) :
    l.readByte j = 0 := by
  induction l generalizing k u with
  | nil => rfl
  | cons z l ih =>
    obtain ⟨z, w⟩ := z
    simp [Memory.wf] at h
    have hz : Memory.wf ((z, w) :: l) = true := by simp [Memory.wf]; exact h.2
    simp [Memory.readByte, show z ≠ j by omega]
    exact ih z w hz (by omega)

/-- A byte written is read back. -/
theorem readByte_written (m : Memory) (a : Nat) (v : Byte) (h : m.wf = true) : (m.writeByte a v).readByte a = v := by
  induction m with
  | nil =>
    simp only [Memory.writeByte]
    split
    · next hv => rw [hv]; rfl
    · simp [Memory.readByte]
  | cons x t ih =>
    obtain ⟨y, u⟩ := x
    have ht : Memory.wf t = true := by simp [Memory.wf] at h; exact h.2
    have h0 := readByte_below t y a u h
    simp only [Memory.writeByte]
    split
    · split
      · next h1 hv => rw [Memory.readByte, if_neg (by omega), h0 (by omega), hv]
      · simp [Memory.readByte]
    · split
      · split
        · next h1 hv => rw [h0 (by omega), hv]
        · simp [Memory.readByte]
      · next h1 => rw [Memory.readByte, if_neg (by omega), ih ht]

/-- Every byte but the one written reads as before. -/
theorem readByte_other (m : Memory) (a b : Nat) (v : Byte) (hb : b ≠ a) : (m.writeByte a v).readByte b = m.readByte b := by
  induction m with
  | nil =>
    simp only [Memory.writeByte]
    split
    · rfl
    · simp [Memory.readByte, Ne.symm hb]
  | cons x t ih =>
    obtain ⟨y, u⟩ := x
    simp only [Memory.writeByte]
    split
    · split
      · rfl
      · simp [Memory.readByte, Ne.symm hb]
    · split
      · next h1 =>
        subst h1
        split
        · simp [Memory.readByte, Ne.symm hb]
        · simp [Memory.readByte, Ne.symm hb]
      · simp [Memory.readByte, ih]

/-- A read after a write of one byte. -/
theorem readByte_writeByte (m : Memory) (a b : Nat) (v : Byte) (h : m.wf = true) :
    (m.writeByte a v).readByte b = if b = a then v else m.readByte b := by
  split
  · next hb => rw [hb, readByte_written m a v h]
  · next hb => exact readByte_other m a b v hb

/-- A byte written behind the head keeps the canonical form. -/
theorem writeByte_head (m : Memory) (a : Nat) (v : Byte) (y : Nat) (u : Byte) (h : Memory.wf ((y, u) :: m) = true)
    (ha : y < a) : Memory.wf ((y, u) :: m.writeByte a v) = true := by
  induction m generalizing y u with
  | nil => simp only [Memory.writeByte]; split <;> simp_all [Memory.wf]
  | cons x t ih =>
    obtain ⟨z, w⟩ := x
    have hz : Memory.wf ((z, w) :: t) = true := by simp [Memory.wf] at h ⊢; exact h.2
    simp only [Memory.writeByte]
    split
    · split <;> simp_all [Memory.wf]
    · split
      · split
        · cases t with
          | nil => simp_all [Memory.wf]
          | cons p q => obtain ⟨p, r⟩ := p; simp_all [Memory.wf]; omega
        · cases t with
          | nil => simp_all [Memory.wf]
          | cons p q => obtain ⟨p, r⟩ := p; simp_all [Memory.wf]
      · have := ih z w hz (by omega)
        simp_all [Memory.wf]

/-- A byte written keeps the canonical form. -/
theorem writeByte_wf (m : Memory) (a : Nat) (v : Byte) (h : m.wf = true) : (m.writeByte a v).wf = true := by
  cases m with
  | nil => simp only [Memory.writeByte]; split <;> simp_all [Memory.wf]
  | cons x t =>
    obtain ⟨z, w⟩ := x
    simp only [Memory.writeByte]
    split
    · split <;> simp_all [Memory.wf]
    · split
      · split
        · simp_all [Memory.wf]
        · cases t with
          | nil => simp_all [Memory.wf]
          | cons p q => obtain ⟨p, r⟩ := p; simp_all [Memory.wf]
      · exact writeByte_head t a v z w h (by omega)

/-- A word written in given lanes keeps the canonical form. -/
theorem writeLanes_wf (m : Memory) (a : Nat) (l : Lanes) (w : Word) (h : m.wf = true) :
    (m.writeLanes a l w).wf = true := by
  cases l <;> simp only [Memory.writeLanes]
  · exact writeByte_wf _ _ _ h
  · exact writeByte_wf _ _ _ h
  · exact writeByte_wf _ _ _ (writeByte_wf _ _ _ h)

/-- A whole word written keeps the canonical form. -/
theorem writeWord_wf (m : Memory) (a : Nat) (w : Word) (h : m.wf = true) : (m.writeWord a w).wf = true :=
  writeLanes_wf m a .both w h

/-- A list of words written keeps the canonical form. -/
theorem writeWords_wf (ws : List Word) (m : Memory) (a : Nat) (h : m.wf = true) : (m.writeWords a ws).wf = true := by
  induction ws generalizing m a with
  | nil => exact h
  | cons w ws ih => exact ih _ _ (writeWord_wf m a w h)

/-- The writes of a store keep the canonical form. -/
theorem storePartly_wf (n : Nat) (ws : List Word) (m : Memory) (h : m.wf = true) : (storePartly n ws m).wf = true := by
  unfold storePartly
  generalize (storeWrites ws).take n = l
  induction l generalizing m with
  | nil => exact h
  | cons x xs ih => exact ih _ (writeWord_wf m x.1 x.2 h)

/-- Every way a store fails keeps the canonical form. -/
theorem storeFaultMemory_wf (ws : List Word) (m : Memory) (f : StoreFault) (h : m.wf = true) :
    (storeFaultMemory ws m f).wf = true := by
  cases f with
  | writeNoAnswer n => exact storePartly_wf n ws m h
  | readNoAnswer a => exact storePartly_wf _ ws m h
  | mismatch a g => exact writeWord_wf _ _ _ (storePartly_wf _ ws m h)

/-- The memories of the reset state are in canonical form. -/
theorem reset_memories_wf : State.reset.sram.wf = true ∧ State.reset.settingsMem.wf = true := by decide

/-! ### Words -/

/-- The byte a write in given lanes leaves at a byte address (R93). -/
theorem readByte_writeLanes (m : Memory) (a : Nat) (l : Lanes) (w : Word) (b : Nat) (h : m.wf = true) :
    (m.writeLanes a l w).readByte b =
      if b = 2 * a ∧ l ≠ .upper then loByte w else if b = 2 * a + 1 ∧ l ≠ .lower then hiByte w else m.readByte b := by
  cases l <;> simp only [Memory.writeLanes]
  · rw [readByte_writeByte _ _ _ _ h]; simp
  · rw [readByte_writeByte _ _ _ _ h]; simp
  · rw [readByte_writeByte _ _ _ _ (writeByte_wf _ _ _ h), readByte_writeByte _ _ _ _ h]
    by_cases h1 : b = 2 * a + 1 <;> by_cases h2 : b = 2 * a <;> simp_all <;> omega

/-- The halves of a word put together give it back. -/
theorem wordOf_halves (w : Word) : wordOf (hiByte w) (loByte w) = w := by
  unfold wordOf hiByte loByte
  apply BitVec.eq_of_getLsbD_eq
  intro i hi
  simp only [BitVec.getLsbD_append, BitVec.getLsbD_setWidth, BitVec.getLsbD_ushiftRight]
  by_cases h : i < 8
  · simp [h]
  · simp [h, show i - 8 < 8 by omega, show 8 + (i - 8) = i by omega]

/-- A word written in given lanes is read back merged with the word it replaced; other words stand (R93). -/
theorem readWord_writeLanes (m : Memory) (a : Nat) (l : Lanes) (w : Word) (b : Nat) (h : m.wf = true) :
    (m.writeLanes a l w).readWord b =
      if b = a then
        wordOf (if l = .lower then m.readByte (2 * a + 1) else hiByte w)
          (if l = .upper then m.readByte (2 * a) else loByte w)
      else m.readWord b := by
  simp only [Memory.readWord, readByte_writeLanes _ _ _ _ _ h]
  by_cases hb : b = a
  · subst hb; cases l <;> simp
  · have h1 : ¬ (2 * b + 1 = 2 * a) := by omega
    have h2 : ¬ (2 * b = 2 * a + 1) := by omega
    have h3 : ¬ (2 * b = 2 * a) := by omega
    have h4 : ¬ (2 * b + 1 = 2 * a + 1) := by omega
    rw [if_neg hb, if_neg (fun x => h1 x.1), if_neg (fun x => h4 x.1), if_neg (fun x => h3 x.1), if_neg (fun x => h2 x.1)]

/-- A whole word written is read back; other words stand. -/
theorem readWord_writeWord (m : Memory) (a : Nat) (w : Word) (b : Nat) (h : m.wf = true) :
    (m.writeWord a w).readWord b = if b = a then w else m.readWord b := by
  rw [Memory.writeWord, readWord_writeLanes _ _ _ _ _ h]
  simp [wordOf_halves]

/-- Words written from an address on leave the word below it. -/
theorem readWord_writeWords_below (ws : List Word) (m : Memory) (a b : Nat) (h : m.wf = true) (hb : b < a) :
    (m.writeWords a ws).readWord b = m.readWord b := by
  induction ws generalizing m a with
  | nil => rfl
  | cons w ws ih =>
    show ((m.writeWord a w).writeWords (a + 1) ws).readWord b = _
    rw [ih _ _ (writeWord_wf m a w h) (by omega), readWord_writeWord _ _ _ _ h, if_neg (by omega)]

/-- Words written at consecutive addresses are read back (R183, R189). -/
theorem readWords_writeWords (ws : List Word) (m : Memory) (a : Nat) (h : m.wf = true) :
    (m.writeWords a ws).readWords a ws.length = ws := by
  induction ws generalizing m a with
  | nil => rfl
  | cons w ws ih =>
    have hw := writeWord_wf m a w h
    show ((m.writeWord a w).writeWords (a + 1) ws).readWord a ::
      ((m.writeWord a w).writeWords (a + 1) ws).readWords (a + 1) ws.length = w :: ws
    rw [ih _ _ hw, readWord_writeWords_below _ _ _ _ hw (by omega), readWord_writeWord _ _ _ _ h, if_pos rfl]

end Sys2Proof.Machine
end

