-- ==== Sys2Proof/Laws/Operations.lean ====
section
/-! SUPPORT. What each shared operation can do, said once: the write-outs asked for, an event appended, an entry of a
table changed, the arbiter, a whole write of the processor to a request word, a port that its robot follows, and a record
that joins the exit queue. -/

namespace Sys2Proof.Machine

open Sys2Proof

/-! ### Tables -/

theorem modAt_same {α : Type} {n : Nat} (v : Vector α n) (i : Fin n) (f : α → α) : (modAt v i f)[i] = f v[i] := by
  simp [modAt]

theorem modAt_other {α : Type} {n : Nat} (v : Vector α n) (i j : Fin n) (f : α → α) (h : i ≠ j) :
    (modAt v i f)[j] = v[j] := by
  have : i.val ≠ j.val := fun e => h (Fin.ext e)
  simp [modAt, this]

/-- Entry `j` of a table with entry `i` changed. -/
theorem modAt_get {α : Type} {n : Nat} (v : Vector α n) (i j : Fin n) (f : α → α) :
    (modAt v i f)[j] = if i = j then f v[j] else v[j] := by
  split
  · next h => subst h; exact modAt_same v i f
  · next h => exact modAt_other v i j f h

theorem mapAll_get {α β : Type} {n : Nat} (f : α → β) (v : Vector α n) (i : Fin n) : (mapAll f v)[i] = f v[i] := by
  simp [mapAll]

/-! ### The list of write-outs -/

/-- A write-out asked for joins the list unless it waits there (R101). -/
theorem ask_writer (m : Mirror) (s : State) :
    (ask m s).writer =
      { s.writer with queue := if Job.mirror m ∈ s.writer.queue then s.writer.queue else s.writer.queue ++ [.mirror m] } := by
  unfold ask enqueue
  split <;> rfl

/-- Mirrors asked for join the end of the list; nothing leaves it. -/
theorem askAll_writer (ms : List Mirror) (s : State) :
    ∃ ns : List Mirror, (askAll ms s).writer = { s.writer with queue := s.writer.queue ++ ns.map .mirror } := by
  induction ms generalizing s with
  | nil => exact ⟨[], by simp [askAll]⟩
  | cons m ms ih =>
    obtain ⟨ns, h⟩ := ih (ask m s)
    have h' : (askAll (m :: ms) s).writer = (askAll ms (ask m s)).writer := rfl
    rw [h', h, ask_writer]
    by_cases hm : Job.mirror m ∈ s.writer.queue
    · exact ⟨ns, by simp [hm]⟩
    · exact ⟨m :: ns, by simp [hm]⟩

/-- `settle` changes nothing but the list of write-outs. -/
@[simp] theorem settle_frame (s u : State) :
    let t := settle s u
    t.pending = u.pending ∧ t.free = u.free ∧ t.sram = u.sram ∧ t.settingsMem = u.settingsMem ∧ t.cfg = u.cfg ∧
      t.bus = u.bus ∧ t.time = u.time ∧ t.track = u.track ∧ t.cameras = u.cameras ∧ t.reject = u.reject ∧
      t.robots = u.robots ∧ t.engine = u.engine ∧ t.field = u.field ∧ t.grant = u.grant ∧ t.switch = u.switch ∧
      t.lines = u.lines ∧ t.notice = u.notice ∧ t.loader = u.loader := by
  simp [settle]

/-- `settle` adds mirrors at the end of the list of write-outs. -/
theorem settle_writer (s u : State) :
    ∃ ns : List Mirror, (settle s u).writer = { u.writer with queue := u.writer.queue ++ ns.map .mirror } :=
  askAll_writer _ u

/-! ### Events (R180, R182) -/

/-- Everything an appended event can do: nothing without a configuration, a count and a flag with the ring full, else
a slot reserved and its record's write-out. -/
theorem appendAt_cases (k : EventKind) (subject : Word) (t : Time) (q : TimeState) (d1 d2 : Word) (s : State) :
    (s.cfg = none ∧ appendAt k subject t q d1 d2 s = s) ∨
    (s.cfg ≠ none ∧ eventRingFull s = true ∧
      (appendAt k subject t q d1 d2 s).writer = s.writer ∧
      (appendAt k subject t q d1 d2 s).notice =
        { s.notice with lost := satInc s.notice.lost, flags := s.notice.flags ||| BitVec.ofNat 16 (2 ^ flagEventDropped) }) ∨
    (s.cfg ≠ none ∧ eventRingFull s = false ∧
      (appendAt k subject t q d1 d2 s).notice = { s.notice with writeIx := (s.notice.writeIx + 1) % 64 } ∧
      (appendAt k subject t q d1 d2 s).writer =
        { s.writer with queue := s.writer.queue ++
            [.event s.notice.writeIx (eventWords k subject t q d1 d2) ((s.notice.writeIx + 1) % 64)] }) := by
  unfold appendAt
  by_cases h : s.cfg = none
  · simp [h]
  · by_cases hf : eventRingFull s = true
    · simp [h, hf]
    · simp [h, hf]

/-- An event raises no flag but EVENT_DROPPED, and clears none. -/
theorem append_flags (k : EventKind) (subject d1 d2 : Word) (s : State) :
    (append k subject d1 d2 s).notice.flags = s.notice.flags ∨
    (append k subject d1 d2 s).notice.flags = s.notice.flags ||| BitVec.ofNat 16 (2 ^ flagEventDropped) := by
  unfold append
  rcases appendAt_cases k subject s.time.now s.time.state d1 d2 s with ⟨-, h⟩ | ⟨-, -, -, h⟩ | ⟨-, -, h, -⟩
  · simp [h]
  · simp [h]
  · simp [h]

/-! ### A whole write of the processor -/

/-- Which agents wait does not depend on the processor's access. -/
theorem agentWaiting_bus (f : Bus → Bus) (s : State) (g : Requester) : agentWaiting (updBus f s) g = agentWaiting s g := by
  cases g <;> rfl

/-- The arbiter reads of the Access Path the wait counts only. -/
theorem arbiter_bus (f : Bus → Bus) (p : Bool) (s : State) (h : (f s.bus).waits = s.bus.waits) :
    arbiter p (updBus f s) = arbiter p s := by
  have e : agentWaiting (updBus f s) = agentWaiting s := funext (agentWaiting_bus f s)
  simp only [arbiter, e, updBus_own, h]

/-- What the processor presents in ACTIVE is classified under the configuration (R85). -/
theorem classify_active (s : State) (c : Settings) (write : Bool) (a : Nat) (l : Lanes) (hd : s.bus.device = .active)
    (hc : s.cfg = some c) :
    classify s write a l = if write then writeFate c s.bus.storing a l else readFate c a := by
  simp [classify, hd, hc]

/-- A full-word write to a request word is a request (R90). -/
theorem writeFate_request (c : Settings) (storing : Bool) (i : Fin 26) :
    writeFate c storing (c.page + 16 + i.val) .both = .request i := by
  have hi := i.isLt
  have h1 : inPage c (c.page + 16 + i.val) = true := by simp [inPage]; omega
  have h2 : c.page + 16 + i.val - c.page = 16 + i.val := by omega
  simp only [writeFate, h1, if_true, h2, pageWrite]
  rw [if_neg (by omega), if_neg (by omega), if_neg (by omega), dif_pos (by omega)]
  congr 1
  exact Fin.ext (by simp)

/-- A write refused at presentation is one of LOADING or RELOADING (R94, R95). -/
theorem classify_refusedAtOnce (s : State) (a : Nat) (l : Lanes) (h : refusedAtOnce true s = true) :
    classify s true a l = .refuse .loading := by
  have h : s.bus.device = .loading ∨ s.bus.device = .reloading := by simpa [refusedAtOnce] using h
  rcases h with h | h <;> simp [classify, h]

/-- The arbiter does not read the access in flight. -/
theorem arbiter_inFlight (x : Access) (p : Bool) (s : State) : arbiter p (inFlight x s) = arbiter p s :=
  arbiter_bus (fun b => { b with access := some x }) p s rfl

/-- Nor does the class test. -/
theorem classTest_inFlight (x : Access) (s : State) (f : Fate) : classTest (inFlight x s) f = classTest s f := by
  cases f <;> rfl

/-- A write that is neither held nor refused, presented with no access in flight and granted its slot, is completed
toward memory at once (R85, R99, R100). -/
theorem processorWrite_granted (s : State) (a : Nat) (l : Lanes) (w : Word) (hb : s.bus.access = none)
    (hh : mustHold s (classify s true a l) = false) (ht : classTest s (classify s true a l) = none)
    (ha : arbiter true s = some .processor) :
    processorWrite a l w s = performWrite ⟨true, a, l, w, classify s true a l, false, false⟩ (granting .processor s) := by
  let x : Access := ⟨true, a, l, w, classify s true a l, false, false⟩
  have e0 : refusedAtOnce true s = false := by
    cases h : refusedAtOnce true s
    · rfl
    · rw [classify_refusedAtOnce s a l h] at ht; exact absurd ht (by simp [classTest])
  have e1 : presentAccess true a l w s = inFlight x s := by
    simp [presentAccess, accessOf, hb, hh, ha, e0, x]
  have e2 : refusalOf x (inFlight x s) = none := by simpa [refusalOf, classTest_inFlight, x] using ht
  have e4 : clearAccess (granting .processor (inFlight x s)) = granting .processor s := by
    have e : agentWaiting (inFlight x s) = agentWaiting s := funext (agentWaiting_bus _ s)
    have n : ∀ g, nextWait (inFlight x s) .processor g = nextWait s .processor g := by
      intro g; simp [nextWait, e]
    simp only [clearAccess, granting, n]
    simp only [updBus, inFlight]
    rw [← hb]
  unfold processorWrite
  rw [e1]
  simp only [inFlight_own]
  rw [if_pos (by simp [sameWrite, x]), tryComplete, if_pos ((arbiter_inFlight x true s).trans ha), finishAccess, e2]
  simp only [processorSlot, completeAccess]
  rw [if_pos rfl, e4]

/-- A full-word write to a request word in ACTIVE, granted its slot: the owner acts, then the word takes the status that
it shows (R91, R175). -/
theorem requestWrite_serving (s : State) (c : Settings) (i : Fin 26) (w : Word) (hd : s.bus.device = .active)
    (hc : s.cfg = some c) (hb : s.bus.access = none) (ha : arbiter true s = some .processor) :
    requestWrite i w s =
      writeSram (c.page + 16 + i.val) (requestAction i w (granting .processor s)).notice.status[i]
        (requestAction i w (granting .processor s)) := by
  have hf : classify s true (c.page + 16 + i.val) .both = .request i := by
    rw [classify_active s c true _ _ hd hc]; simpa using writeFate_request c s.bus.storing i
  have hp : pageBase s = c.page := by simp [pageBase, hc]
  unfold requestWrite
  rw [hp, processorWrite_granted s _ .both w hb (by rw [hf]; rfl) (by rw [hf]; rfl) ha, hf]
  rfl

/-- A write refused at presentation, or by its class test when the next slot is the processor's, is completed without a
slot, and counted (R85, R92, R93, R100). -/
theorem processorWrite_refused (s : State) (a : Nat) (l : Lanes) (w : Word) (x : Cause) (hb : s.bus.access = none)
    (hh : mustHold s (classify s true a l) = false) (ht : classTest s (classify s true a l) = some x)
    (ha : refusedAtOnce true s = true ∨ arbiter true s = some .processor) :
    processorWrite a l w s = refuse (accessOf s true a l w) x s := by
  unfold processorWrite
  cases h : refusedAtOnce true s
  · have ha : arbiter true s = some .processor := by simpa [h] using ha
    have e1 : presentAccess true a l w s = inFlight (accessOf s true a l w) s := by simp [presentAccess, hb, h]
    have e2 : refusalOf (accessOf s true a l w) (inFlight (accessOf s true a l w) s) = some x := by
      simpa [refusalOf, classTest_inFlight, accessOf] using ht
    rw [e1]
    simp only [inFlight_own]
    rw [if_pos (by simp [sameWrite, accessOf, hh]), tryComplete, if_pos ((arbiter_inFlight _ true s).trans ha),
      finishAccess, e2]
    rfl
  · have e : x = .loading := by rw [classify_refusedAtOnce s a l h] at ht; exact (Option.some.inj ht).symm
    have e1 : presentAccess true a l w s = refuse (accessOf s true a l w) x s := by simp [presentAccess, hb, h, e]
    have e2 : (refuse (accessOf s true a l w) x s).bus.access = none := by simp [refuse]
    rw [e1]
    simp [e2]

/-- A write that is neither refused at presentation nor granted its slot goes on waiting, held or not (R85, R99, R100). -/
theorem processorWrite_waits (s : State) (a : Nat) (l : Lanes) (w : Word) (hb : s.bus.access = none)
    (hr : refusedAtOnce true s = false)
    (ha : mustHold s (classify s true a l) = true ∨ arbiter true s ≠ some .processor) :
    processorWrite a l w s = inFlight (accessOf s true a l w) s := by
  have e1 : presentAccess true a l w s = inFlight (accessOf s true a l w) s := by simp [presentAccess, hb, hr]
  unfold processorWrite
  rw [e1]
  simp only [inFlight_own]
  split
  · rename_i h
    have hn : arbiter true s ≠ some .processor := by
      rcases ha with ha | ha
      · simp [sameWrite, accessOf, ha] at h
      · exact ha
    rw [tryComplete, if_neg (by rw [arbiter_inFlight]; exact hn)]
  · rfl

/-- What a refusal does: no access in flight, the count, the record when it is empty, and the flag (R92, R93). -/
theorem refuse_own (a : Access) (c : Cause) (s : State) :
    (refuse a c s).bus = { countRefusal (refusedNow s a c) s.bus with access := none } ∧
    (refuse a c s).notice = { s.notice with flags := s.notice.flags ||| BitVec.ofNat 16 (2 ^ flagRefused) } := by
  simp [refuse]

/-! ### A port and its robot (R122, R153) -/

/-- Everything that following a port can do: nothing at a port of no configured robot, or where the context already agrees
with the port; else the entry to STARTING at a usable port, or to OFFLINE at one that is not (R122). -/
theorem followPort_cases (p : Fin 16) (s : State) :
    followPort p s = s ∨
    ∃ r : Fin 8, s.switch.ports[p].role = .robot r ∧ (robotCfg s r).isSome = true ∧
      ((portUsable s.switch.ports[p] = true ∧ s.robots[r].context = .offline ∧ followPort p s = goStarting r s) ∨
       (portUsable s.switch.ports[p] = false ∧ s.robots[r].context ≠ .offline ∧ followPort p s = goOffline r s)) := by
  unfold followPort
  split
  · rename_i r hr
    split
    · exact .inl rfl
    · rename_i hc
      have hc : (robotCfg s r).isSome = true := by cases h : robotCfg s r <;> simp_all
      split
      · rename_i hu
        split
        · rename_i ho; exact .inr ⟨r, hr, hc, .inl ⟨hu, ho, rfl⟩⟩
        · exact .inl rfl
      · rename_i hu
        split
        · exact .inl rfl
        · rename_i ho; exact .inr ⟨r, hr, hc, .inr ⟨by simpa using hu, ho, rfl⟩⟩
  · exact .inl rfl

/-- A context set to another one: the robot's record and its count, one ROBOT_STATE, and the queue emptied where RUNNING is
left; set to the one it has, nothing (R37, R123). -/
theorem setContext_cases (r : Fin 8) (x : Context) (s : State) :
    (s.robots[r].context = x ∧ setContext r x s = s) ∨
    (s.robots[r].context ≠ x ∧
      let u := append .robotState (BitVec.ofNat 16 r.val) (BitVec.ofNat 16 (contextCode s.robots[r].context))
        (BitVec.ofNat 16 (contextCode x))
        (updRobot r (fun b => { b with context := x, ctxChanges := satInc b.ctxChanges }) s)
      setContext r x s = if s.robots[r].context = .running then emptyQueue r u else u) := by
  by_cases h : s.robots[r].context = x
  · exact .inl ⟨h, by simp only [setContext, if_pos h]⟩
  · exact .inr ⟨h, by simp only [setContext, if_neg h]⟩

/-- A desired state formed again stands, or changes with its command queued and the robot following (R122, R153, R154). -/
theorem formDesired_cases (p : Fin 16) (s : State) :
    let d := desiredState s.grant.isOpen s.switch.ports[p]
    (s.switch.ports[p].desired = d ∧ formDesired p s = s) ∨
    (s.switch.ports[p].desired ≠ d ∧ formDesired p s =
      followPort p (requestCommand p (setAction d) (updPort p (fun x => { x with desired := d }) s))) := by
  intro d
  by_cases h : s.switch.ports[p].desired = d
  · exact .inl ⟨h, if_pos h⟩
  · exact .inr ⟨h, if_neg h⟩

/-! ### The exit queue (R77) -/

/-- A record that joins the exit queue stands at its end; one that finds 8 there has the head given up first (R77). -/
theorem joinExit_cases (c : Record) (s : State) :
    let joined := updReject fun j => { j with exitQueue := j.exitQueue ++ [c] }
    (s.reject.exitQueue.length < 8 ∧ joinExit c s = drainExit (joined s)) ∨
    ∃ h hs, s.reject.exitQueue = h :: hs ∧ 8 ≤ s.reject.exitQueue.length ∧
      joinExit c s = drainExit (joined (unwatch h.seq s)) := by
  intro joined
  unfold joinExit
  cases e : s.reject.exitQueue with
  | nil => exact .inl ⟨by decide, by simp [joined, updReject, e]⟩
  | cons h hs =>
    by_cases k : 8 ≤ (h :: hs).length
    · exact .inr ⟨h, hs, rfl, k, by simp only [if_pos k, joined]⟩
    · exact .inl ⟨Nat.lt_of_not_le k, by simp only [if_neg k, joined]⟩

/-! ### Slots -/

/-- An agent that has not waited through four processor accesses takes no slot ahead of the processor (R99). -/
theorem slotIfLate_of_timely (s : State) (g : Requester) (h : agentWaiting s g = true → waitOf s.bus.waits g < 4) :
    slotIfLate s g = s := by
  unfold slotIfLate
  rw [if_neg]
  intro k
  have k : agentWaiting s g = true ∧ 4 ≤ waitOf s.bus.waits g := by simpa using k
  exact absurd (h k.1) (Nat.not_lt.mpr k.2)

/-- With no agent late, a released access takes its slot at once (R87, R99). -/
theorem releasedSlot_of_timely (s : State) (h : ∀ g, agentWaiting s g = true → waitOf s.bus.waits g < 4) :
    releasedSlot s = granting .processor s := by
  have e : ∀ l : List Requester, l.foldl slotIfLate s = s := by
    intro l
    induction l with
    | nil => rfl
    | cons g gs ih => rw [List.foldl_cons, slotIfLate_of_timely s g (h g), ih]
  unfold releasedSlot
  rw [e]

/-- A slot granted to an agent is that agent's turn (R99). -/
theorem memorySlotStep_agent (s : State) (g : Requester) (h : arbiter (processorWaiting s) s = some g)
    (hg : g ≠ .processor) : memorySlotStep s = agentTurn g s := by
  unfold memorySlotStep
  rw [h]
  cases g <;> first | rfl | exact absurd rfl hg

/-- A slot granted to the processor is the turn of its access (R99). -/
theorem memorySlotStep_processor (s : State) (x : Access) (hx : s.bus.access = some x) (hh : x.held = false)
    (h : arbiter true s = some .processor) : memorySlotStep s = processorTurn x s := by
  have e : processorWaiting s = true := by simp [processorWaiting, hx, hh]
  unfold memorySlotStep
  rw [e, h, hx]

/-! ### Frame checks (R162, R191) -/

@[simp] theorem goodCheck_own (bs : List Byte) : goodCheck (some (Config.frameCheck bs)) bs = true := by simp [goodCheck]

@[simp] theorem goodCheck_absent (bs : List Byte) : goodCheck none bs = false := rfl

theorem goodCheck_other (check : Option (BitVec 32)) (bs : List Byte) (h : check ≠ some (Config.frameCheck bs)) :
    goodCheck check bs = false := by
  cases e : goodCheck check bs
  · rfl
  · exact absurd (by simpa [goodCheck] using e) h

/-- A value of 1 to 2^32 − 1 added to a check gives another check. -/
theorem spoiled_ne (x : BitVec 32) (d : Nat) : x + BitVec.ofNat 32 (1 + d % 4294967295) ≠ x := by
  intro h
  have h := congrArg BitVec.toNat h
  simp only [BitVec.toNat_add, BitVec.toNat_ofNat] at h
  have := x.isLt
  omega

/-- A frame of at least the least length is not padded (R191). -/
theorem padFrame_long (bs : List Byte) (h : Config.leastFrame ≤ bs.length) : padFrame bs = bs := by
  simp [padFrame, Nat.sub_eq_zero_of_le h]

/-- A padded frame has the least length, or its own where that is more (R191). -/
theorem padFrame_length (bs : List Byte) : (padFrame bs).length = max bs.length Config.leastFrame := by
  simp only [padFrame, List.length_append, List.length_replicate]; omega

/-- Everything that ending the frame in transmission can do: nothing without one, else the port is free and the frame
leaves as some of its bytes, the first among them, padded and closed by a check that is not theirs (R127, R191). -/
theorem endSending_cases (n : Nat) (f : FieldPort) :
    (f.sending = none ∧ endSending n f = f) ∨
    ∃ (x : Sending) (bs : List Byte) (check : BitVec 32), f.sending = some x ∧ bs <+: readBytes x ∧
      (readBytes x ≠ [] → bs ≠ []) ∧ check ≠ Config.frameCheck (padFrame bs) ∧
      endSending n f = { f with sending := none, lastSent := padFrame bs ++ bytes32 check, endings := f.endings + 1 } := by
  cases h : f.sending with
  | none => exact .inl ⟨rfl, by simp [endSending, h]⟩
  | some x =>
    refine .inr ⟨x, (readBytes x).take (1 + Config.sentBytes n f.endings % (readBytes x).length), _, rfl,
      List.take_prefix _ _, fun hx hb => ?_, spoiled_ne _ (Config.spoiledBy n f.endings), ?_⟩
    · rcases List.take_eq_nil_iff.mp hb with h0 | h0
      · omega
      · exact hx h0
    · simp [endSending, h, endedFrame, spoilFrame]

/-- Where a mirror may be rewritten, its rewrite asks for it (R101). -/
theorem rewriteMirror_own (m : Mirror) (s : State) (h : rewritable m s = true) : rewriteMirror m s = ask m s := by
  simp [rewriteMirror, h]

end Sys2Proof.Machine
end

