-- ==== Sys2Proof/Laws/PerInstr.lean ====
section
/-! SUPPORT. The per-command family: no word spells a command, since the rows of the table give no bits. -/

namespace Sys2Proof.Laws.NoWordSpells

open Sys2Proof

/-- No word of any length spells the command. -/
def Statement (i : Instr) : Prop := ∀ nbits w : Nat, decodeTableWord nbits w ≠ some i

theorem fullReset : Statement .fullReset := fun _ _ => nofun
theorem imageCheckEnd (answers : Bool) : Statement (.imageCheckEnd answers) := fun _ _ => nofun
theorem activeEntry : Statement .activeEntry := fun _ _ => nofun
theorem storeComplete : Statement .storeComplete := fun _ _ => nofun
theorem storeFailed (f : StoreFault) : Statement (.storeFailed f) := fun _ _ => nofun
theorem processorAccess (write : Bool) (addr : BitVec 19) (lanes : Lanes) (data : Word) : Statement (.processorAccess write addr lanes data) := fun _ _ => nofun
theorem memoryWrite (addr : BitVec 19) (lanes : Lanes) (data : Word) : Statement (.memoryWrite addr lanes data) := fun _ _ => nofun
theorem memorySlot : Statement .memorySlot := fun _ _ => nofun
theorem noticeFlagsWrite (lanes : Lanes) (data : Word) : Statement (.noticeFlagsWrite lanes data) := fun _ _ => nofun
theorem noticeEnablesWrite (lanes : Lanes) (data : Word) : Statement (.noticeEnablesWrite lanes data) := fun _ _ => nofun
theorem globalEnableWrite (lanes : Lanes) (data : Word) : Statement (.globalEnableWrite lanes data) := fun _ _ => nofun
theorem handover (r : Fin 8) (w : Word) : Statement (.handover r w) := fun _ _ => nofun
theorem take (r : Fin 8) (w : Word) : Statement (.take r w) := fun _ _ => nofun
theorem grantOpen (level : Level) (minutes : Byte) : Statement (.grantOpen level minutes) := fun _ _ => nofun
theorem grantClose (minutes : Byte) : Statement (.grantClose minutes) := fun _ _ => nofun
theorem portDisable (p : Fin 16) : Statement (.portDisable p) := fun _ _ => nofun
theorem portEnable (p : Fin 16) : Statement (.portEnable p) := fun _ _ => nofun
theorem portRelease (p : Fin 16) : Statement (.portRelease p) := fun _ _ => nofun
theorem policyNormal : Statement .policyNormal := fun _ _ => nofun
theorem policyRejectAll : Statement .policyRejectAll := fun _ _ => nofun
theorem policyBypass : Statement .policyBypass := fun _ _ => nofun
theorem markLow (w : Word) : Statement (.markLow w) := fun _ _ => nofun
theorem mark (w : Word) : Statement (.mark w) := fun _ _ => nofun
theorem outcomeRead (w : Word) : Statement (.outcomeRead w) := fun _ _ => nofun
theorem eventRead (w : Word) : Statement (.eventRead w) := fun _ _ => nofun
theorem generalOut (mask levels : Byte) : Statement (.generalOut mask levels) := fun _ _ => nofun
theorem lineReset : Statement .lineReset := fun _ _ => nofun
theorem reload : Statement .reload := fun _ _ => nofun
theorem reloadAndStore : Statement .reloadAndStore := fun _ _ => nofun
theorem refusalRearm : Statement .refusalRearm := fun _ _ => nofun
theorem faultReload : Statement .faultReload := fun _ _ => nofun
theorem faultReloadAndStore : Statement .faultReloadAndStore := fun _ _ => nofun
theorem timeCapture (w : Word) : Statement (.timeCapture w) := fun _ _ => nofun
theorem frameArrivalStart (bytes : List Byte) : Statement (.frameArrivalStart bytes) := fun _ _ => nofun
theorem frameAdmission : Statement .frameAdmission := fun _ _ => nofun
theorem frameReceptionEnd (check : Option (BitVec 32)) : Statement (.frameReceptionEnd check) := fun _ _ => nofun
theorem answerStart : Statement .answerStart := fun _ _ => nofun
theorem answerComplete (r : Fin 8) : Statement (.answerComplete r) := fun _ _ => nofun
theorem cycle : Statement .cycle := fun _ _ => nofun
theorem frameTxStart : Statement .frameTxStart := fun _ _ => nofun
theorem frameTxComplete : Statement .frameTxComplete := fun _ _ => nofun
theorem checkStart : Statement .checkStart := fun _ _ => nofun
theorem limitPassEnd : Statement .limitPassEnd := fun _ _ => nofun
theorem checkComplete : Statement .checkComplete := fun _ _ => nofun
theorem linePinChange (l : Fin 16) (high : Bool) : Statement (.linePinChange l high) := fun _ _ => nofun
theorem debounceEnd (l : Fin 16) : Statement (.debounceEnd l) := fun _ _ => nofun
theorem stopTimeout : Statement .stopTimeout := fun _ _ => nofun
theorem triggerPulseEnd (c : Fin 4) : Statement (.triggerPulseEnd c) := fun _ _ => nofun
theorem cameraReady (c : Fin 4) : Statement (.cameraReady c) := fun _ _ => nofun
theorem fireTime : Statement .fireTime := fun _ _ => nofun
theorem ejectorPulseEnd : Statement .ejectorPulseEnd := fun _ _ => nofun
theorem confirmDeadline : Statement .confirmDeadline := fun _ _ => nofun
theorem holdoverTimeout : Statement .holdoverTimeout := fun _ _ => nofun
theorem keyLineChange (keyB : Bool) (high : Bool) : Statement (.keyLineChange keyB high) := fun _ _ => nofun
theorem keyDebounceEnd : Statement .keyDebounceEnd := fun _ _ => nofun
theorem grantExpiry : Statement .grantExpiry := fun _ _ => nofun
theorem blinkStart : Statement .blinkStart := fun _ _ => nofun
theorem lampToggle : Statement .lampToggle := fun _ _ => nofun
theorem cyclePulseEnd : Statement .cyclePulseEnd := fun _ _ => nofun
theorem commandSend : Statement .commandSend := fun _ _ => nofun
theorem commandSendComplete : Statement .commandSendComplete := fun _ _ => nofun
theorem portStateReply (m : PortMsg) : Statement (.portStateReply m) := fun _ _ => nofun
theorem portStateNotice (m : PortMsg) : Statement (.portStateNotice m) := fun _ _ => nofun
theorem portStateDiscard (m : PortMsg) : Statement (.portStateDiscard m) := fun _ _ => nofun
theorem replyTimeout : Statement .replyTimeout := fun _ _ => nofun
theorem flapWindowEnd (p : Fin 16) : Statement (.flapWindowEnd p) := fun _ _ => nofun
theorem clockTick : Statement .clockTick := fun _ _ => nofun
theorem requestBadValue (t : BadTarget) (w : Word) : Statement (.requestBadValue t w) := fun _ _ => nofun

end Sys2Proof.Laws.NoWordSpells
end

