-- ==== Sys2Proof/Tests/Slice0.lean ====
section
/-! SUPPORT. Tests: ill-formed commands that WellFormed refuses, single steps against values of the manual, and for each
obligation with hypotheses a state that meets them. -/

namespace Sys2Proof.Tests

open Sys2Proof Sys2Proof.Machine Sys2Proof.Claims

/-! ### A small configuration -/

/-- Robot 1: an output image of 4 words, 3 of motion, an input image of 2. -/
def robotA : RobotCfg :=
  { nOut := 4, motion := 3, nIn := 2, applyUs := 100, sampleUs := 200, missedLimit := 3, watchdog := 4,
    nextCycle := false, station := 4 }

/-- Robot 2 has no recipe section. -/
def robotB : RobotCfg := { robotA with nOut := 3, station := 6 }

/-- Camera 1. -/
def cameraA : CameraCfg := { pos := 2, exponent := 0, residue := 0, unsurePass := false, defectMax := 2, pulseUs := 500 }

/-- One region of each kind. -/
def regions : List Region :=
  [⟨0x100, 16, .outputWindow, 1, false⟩, ⟨0x110, 16, .inputWindow, 1, false⟩, ⟨0x120, 16, .outputBanks, 1, false⟩,
    ⟨0x130, 16, .inputBanks, 1, false⟩, ⟨0x140, 16, .limits, 0, false⟩, ⟨0x150, 64, .outcomeRing, 0, false⟩,
    ⟨0x190, 16, .guarded, 0, true⟩, ⟨0x1A0, 16, .guarded, 0, false⟩]

/-- A line record with a debounce. -/
def lineOf (f : LineFn) (debounceUs : Nat) : LineCfg := ⟨f, false, false, debounceUs, 700⟩

def lineTable : Vector LineCfg 16 :=
  #v[lineOf .encoderA 0, lineOf .encoderB 0, lineOf .presence 9, lineOf .keyA 0, lineOf .keyB 0, lineOf .cyclePulse 0,
    lineOf .grantLamp 0, lineOf .ejector 0, lineOf (.trigger 1) 0, lineOf .generalOut 0, lineOf .generalIn 9,
    lineOf .none 0, lineOf .none 0, lineOf .none 0, lineOf .none 0, lineOf .none 0]

/-- Robot 1 on port 1, camera 1 on port 2, the hall port 3, the service port 4. -/
def roles : Vector Role 16 :=
  #v[.spare, .robot 1, .camera 1, .hall, .service, .spare, .spare, .spare, .spare, .spare, .spare, .spare, .spare,
    .spare, .spare, .spare]

def cfg : Settings :=
  { generation := 7, regions := regions, page := 0x1000
    time := { sourceId := 77, pathDelay := 100, stepThreshold := 1000000, lockWindow := 2000, holdoverS := 5, gp := 8,
              gi := 4, periodUs := 1000, phaseUs := 250 }
    track := { len := 3, pitchLen := 1024, bLeads := false, stopMs := 500, periodMinUs := 20000, periodMaxUs := 200000,
               shift := 2, decidePos := 2, fillWindow := 1 }
    rota := [1]
    robots := #v[none, some robotA, some robotB, none, none, none, none, none]
    cameras := #v[none, some cameraA, none, none]
    eject := { pos := 2, fraction := 128, leadUs := 500, pulseMs := 30, confirmMs := 40 }
    ports := { tagMarker := 0x9100, hallType := 0x88B5, flapS := 10, flapLimit := 3, roles := roles }
    lines := lineTable
    safe := #v[[], [0, 0, 0], [0, 0, 0], [], [], [], [], []]
    limits := [] }

/-- The same with an EJECT_CONFIRM line in place of GENERAL_IN. -/
def cfgConfirm : Settings := { cfg with lines := cfg.lines.set 10 (lineOf .ejectConfirm 9) }

/-- A record of the ring. -/
def recordOf (seq : Seq) : Record :=
  { seq := seq, entry := 0, quality := .free, robot := none, empty := false, suspect := false, unannounced := false,
    fillUnknown := false, fillMissing := false, forced := false, fill := none,
    slots := #v[⟨.notSelected, [], false, false⟩, ⟨.notSelected, [], false, false⟩, ⟨.notSelected, [], false, false⟩,
      ⟨.notSelected, [], false, false⟩]
    decision := none, ejection := none, confirm := none }

/-- A line with its record. -/
def lineState (k : LineCfg) : Line := { Line.released false with record := some k }

/-- ACTIVE under `cfg` at local time 5,000,000,000 with three records in the ring. -/
def base : State :=
  { State.reset with
    cfg := some cfg
    bus := { Bus.reset with device := .active }
    time := { TimeUnit.reset with now := 5000000000 }
    track := { TrackUnit.reset with ring := [recordOf 12, recordOf 11, recordOf 10], nextSeq := 13 }
    switch := { SwitchUnit.reset with
      ports := ((((SwitchUnit.reset.ports.set 1 { Port.reset with role := .robot 1, desired := true }).set 2
        { Port.reset with role := .camera 1, desired := true }).set 3
        { Port.reset with role := .hall, desired := true }).set 4 { Port.reset with role := .service }) }
    lines := { State.reset.lines with
      line := #v[lineState cfg.lines[0], lineState cfg.lines[1], lineState cfg.lines[2], lineState cfg.lines[3],
        lineState cfg.lines[4], lineState cfg.lines[5], lineState cfg.lines[6], lineState cfg.lines[7],
        lineState cfg.lines[8], lineState cfg.lines[9], lineState cfg.lines[10], lineState cfg.lines[11],
        lineState cfg.lines[12], lineState cfg.lines[13], lineState cfg.lines[14], lineState cfg.lines[15]] } }

/-- With the key settled at MAINTAIN and a grant open at a level. -/
def granted (v : Level) : State :=
  { base with grant := { GrantUnit.reset with
      settledB := true, candB := true, isOpen := true, requested := v, granted := v, duration := 5, lamp := .on } }

/-- With robot 1's record changed. -/
def withRobot (b : Robot) (s : State) : State := { s with robots := s.robots.set 1 b }

/-- With camera 1's record changed. -/
def withCamera (c : Camera) (s : State) : State := { s with cameras := s.cameras.set 1 c }

/-- With a frame in reception. -/
def receivingOf (stage : RxStage) (bytes : List Byte) : Receiving := ⟨4999999000, bytes, stage⟩

def withFrame (stage : RxStage) (bytes : List Byte) (s : State) : State :=
  { s with field := { s.field with receiving := some (receivingOf stage bytes) } }

/-- A tagged hall frame from a port. -/
def frameOf (p : Byte) (body : List Byte) : List Byte :=
  [0, 0, 0, 0, 0, 0, 0, 0, 0, 0, 0, 0, 0x91, 0, p, 0, 0x88, 0xB5] ++ body

/-- A TIME frame with an hour of source 77. -/
def timeBytes (low : BitVec 64) : List Byte :=
  frameOf 3 (([4] : List Byte) ++ [(low >>> 56).setWidth 8, (low >>> 48).setWidth 8, (low >>> 40).setWidth 8,
    (low >>> 32).setWidth 8,
    (low >>> 24).setWidth 8, (low >>> 16).setWidth 8, (low >>> 8).setWidth 8, low.setWidth 8, 0, 77])

/-- A PORT_STATE with its check byte. -/
def portMsg (seq p b3 : Byte) : PortMsg := ⟨3, seq, p, b3, 0 - (3 + seq + p + b3)⟩

/-- The state a command leaves. -/
def after (i : Instr) (s : State) : State := match exec i s with | .next t => t | _ => s

/-- The events that wait to be written: kind with the quality bits, subject, and the two detail words. -/
def logged (t : State) : List (List Nat) :=
  t.writer.queue.filterMap fun j => match j with | .event _ ws _ => some ((ws.take 2 ++ ws.drop 6).map (·.toNat)) | _ => none

/-- After a VERDICT of camera 1 that matches no trigger, with the unmatched count at a value. -/
def judgedAt (n : Word) : State :=
  acceptVerdict 1 [200, 1, 0, 0, 0, 0, 0, 0] (withCamera { Camera.reset with unmatcheds := n } base)

/-! ### WellFormed refuses ill-formed commands -/

theorem test_wf_store_fault_write : Instr.wf (.storeFailed (.writeNoAnswer 3073)) = false := by decide
theorem test_wf_store_fault_read : Instr.wf (.storeFailed (.readNoAnswer 3072)) = false := by decide
theorem test_wf_store_fault_mismatch : Instr.wf (.storeFailed (.mismatch 3072 5)) = false := by decide
theorem test_wf_grant_level : Instr.wf (.grantOpen .none 5) = false := by decide
theorem test_wf_frame_length : Instr.wf (.frameArrivalStart (List.replicate 1519 0)) = false := by decide +kernel
theorem test_wf_reply_sum : Instr.wf (.portStateReply ⟨3, 1, 9, 0x83, 0⟩) = false := by decide
theorem test_wf_reply_kind : Instr.wf (.portStateReply (portMsg 1 9 0x03)) = false := by decide
theorem test_wf_reply_port : Instr.wf (.portStateReply (portMsg 1 16 0x83)) = false := by decide
theorem test_wf_notice_reserved : Instr.wf (.portStateNotice (portMsg 1 9 0x04)) = false := by decide
theorem test_wf_discard_of_good : Instr.wf (.portStateDiscard (portMsg 1 9 0x83)) = false := by decide
theorem test_wf_bad_value_control : Instr.wf (.requestBadValue .control 4) = false := by decide
theorem test_wf_bad_value_policy : Instr.wf (.requestBadValue .policy 2) = false := by decide
theorem test_wf_bad_value_grant : Instr.wf (.requestBadValue .grant 0x03FF) = false := by decide
theorem test_wf_bad_value_port : Instr.wf (.requestBadValue .port 0x010F) = false := by decide

/-! ### Single steps -/

/-- R1: with c at +2^-32 ns times 1,000 and the fraction at its top, the whole part advances by 9. -/
theorem test_tick_carries :
    (after .clockTick { base with time := { base.time with frac := 0xFFFFFFFF, corr := 1000 } }).time.now = 5000000009 := by
  decide

/-- R1: with c negative and the fraction 0, the whole part advances by 7. -/
theorem test_tick_borrows :
    (after .clockTick { base with time := { base.time with corr := -1 } }).time.now = 5000000007 := by decide

/-- R107, worked: banks HOST 1, LINK 0, FREE 2 and a MOTION hand-over give CHECK 1, HOST 2, LINK 0. -/
theorem test_handover_takes_free :
    (after (.handover 1 1) (withRobot { Robot.reset with out := #v[.link, .host, .free] } base)).robots[1].out =
      #v[.link, .check, .host] := by decide

/-- R107, worked: with READY 2 carrying RECIPE in place of FREE, CHECK 1 carries MOTION and RECIPE. -/
theorem test_handover_supersedes :
    (after (.handover 1 1)
      (withRobot { Robot.reset with out := #v[.link, .host, .ready], masks := #v[0, 0, 2] } base)).robots[1].masks[1] =
      3 := by decide

/-- R135: a TAKE without a FRESH image shows NO_FRESH. -/
theorem test_take_without_fresh : (after (.take 1 9) base).notice.status[9] = 0x4000 := by decide

/-- R24: an edge at which both levels differ is counted as an error. -/
theorem test_illegal_edge : (encoderEdge true true base).track.encoderErrors = 1 := by decide

/-- R32: the record at position p has the number of the exit plus L − 1 − p. -/
theorem test_position : positionOf 11 base = some 1 := by decide

/-- R146: a GRANT request at NONE closes an open grant. -/
theorem test_grant_close : (after (.grantClose 9) (granted .maintain)).grant.isOpen = false := by decide

/-- R144: with the line RUNNING the effective level is at most ADJUST. -/
theorem test_line_cap :
    effectiveLevel { granted .maintain with track := { base.track with running := true } } = .adjust := by decide

/-- R178: a write of 1s in the lower lane clears no flag of the upper lane. -/
theorem test_flags_lane :
    (after (.noticeFlagsWrite .lower 0xFFFF) { base with notice := { base.notice with flags := 0x0301 } }).notice.flags =
      0x0300 := by decide

/-- R93: a rearm empties the refusal record. -/
theorem test_rearm :
    (after .refusalRearm
      { base with bus := { base.bus with record := some ⟨5, 6, .both, .fixed, 7, .free⟩ } }).bus.record = none := by decide

/-- R54, R57: an unmatched VERDICT at a count of 65,535 rewrites the camera's status though no word of it changes. -/
theorem test_rewrite_saturated :
    Job.mirror (.camera 1) ∈ (judgedAt 0xFFFF).writer.queue ∧ (judgedAt 0xFFFF).cameras[1].unmatcheds = 0xFFFF := by
  decide

/-- R172: a debounce that starts asks for no rewrite of the line's word. -/
theorem test_debounce_bit : (after (.linePinChange 10 true) base).writer.queue = [] := by decide

/-- R159: a loss in the tick that reaches the end of a flap window is counted in that window, one a tick later in a new
one. -/
theorem test_flap_tie :
    let p := { Port.reset with flaps := 1, flapEnd := some 5000000000 }
    (countFlap { TimeUnit.reset with now := 5000000008, advance := 9 } 10 p).flaps = 2 ∧
      (countFlap { TimeUnit.reset with now := 5000000007, advance := 7 } 10 p).flaps = 1 := by decide

/-- R111: the second clamped word of a check raises no flag. -/
theorem test_clamped_once :
    (after .memorySlot { base with engine := ⟨[1], some ⟨1, [], some [], 1, .writeBack 7, some 0⟩⟩ }).notice.flags = 0 := by
  decide

/-- R157: a NOTICE contrary to the desired state is an override. -/
theorem test_override : (after (.portStateNotice (portMsg 0 1 0x02)) base).switch.ports[1].overrides = 1 := by decide

/-! ### States that meet the hypotheses of the obligations -/

theorem witness_StepTakesTheFront : State.reset.pending = [] := rfl
/-- R101: the mirrors that an expiring grant's words are shown in are due and change. -/
theorem witness_EveryCommandCompletes :
    let g := granted .maintain
    let s := { g with grant := { g.grant with expiry := some 5000000000, lamp := .on } }
    let t := after .grantExpiry s
    (MirrorDue t .grant ∧ ShownChanges s t .grant) ∧ (MirrorDue t (.line 6) ∧ ShownChanges s t (.line 6)) := by
  refine ⟨⟨rfl, ?_⟩, rfl, ?_, .inr ?_⟩
  · show mirrorWords .grant _ ≠ mirrorWords .grant _; decide
  · decide
  · intro rec h; cases h; decide
theorem witness_FullResetClearsEveryBlock : State.reset.bus.storing = false := rfl

/-- A tick waits at the front of the queue. -/
def ticking : State := { base with pending := [.clockTick] }

theorem witness_StepKeepsMemoriesCanonical : MemoriesWf ticking ∧ ∃ t, step ticking = .next t :=
  ⟨⟨by decide, by decide⟩, _, rfl⟩
theorem witness_StepKeepsCorrectionBounded :
    ({ ticking with time := { ticking.time with corr := -6871947 } } : State).time.corr.natAbs ≤ 6871947 ∧
      ∃ t, step { ticking with time := { ticking.time with corr := -6871947 } } = .next t :=
  ⟨by decide, _, rfl⟩

/-- Robot 1 with a CHECK bank, a hand-over pending and an answer in deposit. -/
def busyRobot : Robot :=
  { Robot.reset with
    out := #v[.check, .host, .ready], pendingMask := some 1, inp := #v[.fresh, .hostIn, .filling]
    answerState := .started, lastCycleSent := some 5, context := .running
    answer := some { bank := 2, cycle := 5, sample := 9, status := .ready, fills := [], left := [1], next := 1,
                     short := false, long := false, ended := false, newer := false } }

theorem outputBanksOk_reset : OutputBanksOk Robot.reset := by unfold OutputBanksOk LawOne; decide
theorem outputBanksOk_busy : OutputBanksOk busyRobot := by unfold OutputBanksOk LawOne; decide
theorem inputBanksOk_reset : InputBanksOk Robot.reset :=
  ⟨by unfold LawTwo; decide, show inCount Robot.reset .filling = 0 by decide⟩
theorem inputBanksOk_busy : InputBanksOk busyRobot :=
  ⟨by unfold LawTwo; decide, show busyRobot.inp[(2 : Fin 3)] = .filling by decide⟩

theorem witness_StepKeepsLawOne :
    (∀ r : Fin 8, OutputBanksOk (withRobot busyRobot ticking).robots[r]) ∧
      ∃ t, step (withRobot busyRobot ticking) = .next t := by
  refine ⟨fun r => ?_, _, rfl⟩
  match r with
  | 1 => exact outputBanksOk_busy
  | 0 | 2 | 3 | 4 | 5 | 6 | 7 => exact outputBanksOk_reset
theorem witness_StepKeepsLawTwo :
    (∀ r : Fin 8, InputBanksOk (withRobot busyRobot ticking).robots[r]) ∧
      ∃ t, step (withRobot busyRobot ticking) = .next t := by
  refine ⟨fun r => ?_, _, rfl⟩
  match r with
  | 1 => exact inputBanksOk_busy
  | 0 | 2 | 3 | 4 | 5 | 6 | 7 => exact inputBanksOk_reset
theorem witness_StepKeepsLawSix : RingOk ticking ∧ ∃ t, step ticking = .next t := by
  refine ⟨⟨fun p h => ?_, fun c h => ?_, fun c h => ?_⟩, _, rfl⟩
  · match p with
    | 0 => rfl
    | 1 => rfl
    | n + 2 => exact absurd h (Nat.not_lt.mpr (Nat.le_add_left 3 n))
  · cases h; rfl
  · cases h; rfl
theorem witness_StepKeepsLawEight :
    let s := { granted .maintain with pending := [.clockTick], reject := { base.reject with policy := .bypass } }
    LawEight s ∧ s.reject.policy = .bypass ∧ ∃ t, step s = .next t := ⟨fun _ => rfl, rfl, _, rfl⟩
theorem witness_OnlySlotsAndStoresReachMemory :
    storesNothing .cycle = true ∧ (∃ t, exec .cycle base = .next t) ∧ base.bus.storing = false ∧
      (∃ t, exec .fullReset base = .next t) ∧ storesNothing .checkComplete = true ∧ base.bus.access = none :=
  ⟨rfl, ⟨_, rfl⟩, rfl, ⟨_, rfl⟩, rfl, rfl⟩

theorem witness_ClockTickAddsEightPlusCorrection :
    ({ base with time := { base.time with corr := 6871947 } } : State).time.corr.natAbs ≤ 6871947 := by decide
theorem witness_HoldoverTimeoutEndsLock :
    let s := { base with time := { base.time with state := .locked, holdover := some 5000000000 } }
    (s.time.state = .locking ∨ s.time.state = .locked) ∧ due s.time.holdover s.time.now = true := by decide
/-- R14, R16: with a phase of 250 µs and a period of 1,000 µs, the first aligned time no earlier than one, and later. -/
theorem test_aligned :
    0 < cfg.time.periodUs ∧ alignedFrom cfg.time 5000250000 = 5000250000 ∧ alignedFrom cfg.time 5000250001 = 5001250000 ∧
      alignedAfter cfg.time 5000250000 = 5001250000 ∧ alignedAfter cfg.time 0 = 250000 := by decide
theorem witness_StepShiftsGrantSwitchAndLineDeadlines :
    (⟨⟨3, .ask⟩, 0, some 7⟩ : Outstanding) ∈
      ({ base with switch := { base.switch with outstanding := some ⟨⟨3, .ask⟩, 0, some 7⟩ } } : State).switch.outstanding ∧
    base.switch.outstanding = none := ⟨rfl, rfl⟩
theorem witness_StepShiftsGrantSwitchAndLineDeadlines_others :
    let x := { recordOf 10 with ejection := some (.armed 5000001000) }
    let s := { base with time := { base.time with nextCycle := some 5000000250 }
                         track := { base.track with ring := [recordOf 12, recordOf 11, x] }
                         reject := { base.reject with list := [⟨10, 5000001000, none, false⟩] } }
    s.cfg = some cfg ∧ s.time.nextCycle.isSome = true ∧ base.time.nextCycle = none ∧ recordAt 2 s = some x ∧
      recordAt 1 s = some (recordOf 11) ∧ s.reject.list[0]? = some ⟨10, 5000001000, none, false⟩ := by decide

/-- A TIME frame of a source time, arrived at 4,999,999,000 ns, whole: its offset is 4,999,998,900 less that time. -/
def timeFrame (q : TimeState) (source : BitVec 64) : State :=
  withFrame (.held 3 .time) (timeBytes source) { base with time := { base.time with state := q } }
theorem witness_TimeFrame (q : TimeState) (source : BitVec 64) :
    TimeFrame (timeFrame q source) cfg (receivingOf (.held 3 .time) (timeBytes source)) 3 := by
  refine ⟨⟨rfl, rfl, rfl, rfl⟩, ?_, ?_⟩
  · show 29 ≤ 29; decide
  · show (0 ++ 77 : BitVec (8 + 8)) = 77; decide
/-- R3, R162: the role of its port has moved while the frame was in reception; it is held for the Time Unit all the same. -/
theorem witness_TimeFrame_roleMoved (source : BitVec 64) :
    let u := { base.switch with ports := base.switch.ports.set 3 { base.switch.ports[3] with role := .spare } }
    let s := { timeFrame .locked source with switch := u }
    TimeFrame s cfg (receivingOf (.held 3 .time) (timeBytes source)) 3 ∧ s.switch.ports[3].role = .spare :=
  ⟨⟨⟨rfl, rfl, rfl, rfl⟩, (witness_TimeFrame .locked source).2⟩, rfl⟩
theorem test_time_frame_after_role_change :
    let u := { base.switch with ports := base.switch.ports.set 3 { base.switch.ports[3] with role := .spare } }
    (handOn .time 4999999000 (timeBytes 4999998900) { timeFrame .free 0 with switch := u }).time.accepted =
      base.time.accepted + 1 := by decide
theorem witness_TimeFramesSteerOrStep_steers :
    (timeFrame .locked 4999998900).time.state ≠ .free ∧
      (frameOffset cfg (receivingOf (.held 3 .time) (timeBytes 4999998900))).toInt.natAbs ≤ cfg.time.lockWindow := by decide
theorem witness_TimeFramesSteerOrStep_threshold :
    (timeFrame .holdover 4998998900).time.state ≠ .free ∧
      (frameOffset cfg (receivingOf (.held 3 .time) (timeBytes 4998998900))).toInt.natAbs = cfg.time.stepThreshold ∧
      cfg.time.lockWindow < (frameOffset cfg (receivingOf (.held 3 .time) (timeBytes 4998998900))).toInt.natAbs := by decide
theorem witness_TimeFramesSteerOrStep_steps :
    (timeFrame .free 4999998899).time.state = .free ∧
      frameOffset cfg (receivingOf (.held 3 .time) (timeBytes 4999998899)) ≠ 0 ∧
      (timeFrame .locked 4998998899).time.state ≠ .free ∧
      cfg.time.stepThreshold < (frameOffset cfg (receivingOf (.held 3 .time) (timeBytes 4998998899))).toInt.natAbs := by decide
theorem witness_TimeFramesSteerOrStep_malformed (q : TimeState) :
    let b := (timeBytes 0).take 28
    let s := withFrame (.held 3 .time) b { base with time := { base.time with state := q } }
    HallFrame s cfg (receivingOf (.held 3 .time) b) 3 ∧ b.length < 29 := by
  refine ⟨⟨rfl, rfl, rfl, rfl⟩, ?_⟩
  show 28 < 29; decide
theorem witness_TimeFramesSteerOrStep_foreign (q : TimeState) :
    let b := (timeBytes 0).set 28 78
    let s := withFrame (.held 3 .time) b { base with time := { base.time with state := q } }
    HallFrame s cfg (receivingOf (.held 3 .time) b) 3 ∧ 29 ≤ b.length ∧ be16 b 27 ≠ cfg.time.sourceId := by
  refine ⟨⟨rfl, rfl, rfl, rfl⟩, ?_, ?_⟩
  · show 29 ≤ 29; decide
  · show (0 ++ 78 : BitVec (8 + 8)) ≠ 77; decide
theorem witness_TimeFramesSteerOrStep_free :
    (timeFrame .free 4999998900).time.state = .free ∧
      frameOffset cfg (receivingOf (.held 3 .time) (timeBytes 4999998900)) = 0 := by decide

/-- R8, R17: a step by 1,000 ns with the schedule running appends TIME_STEP and CYCLE_SLIP: no aligned time skipped, and
1,000 µs from the schedule start up to the next aligned time at least half a period ahead of the new local time. -/
theorem test_step_events :
    let s := { base with time := { base.time with nextCycle := some 5000250000, schedStart := some 4999251000 } }
    (stepTime 1000 s).notice.writeIx = 2 ∧
      (stepEvents s cfg.time 1000 .locked).map (fun e => (e.kind, e.first, e.second)) =
        [(.timeStep, 1000, 0), (.cycleSlip, 1, 2000)] := by decide

/-- The next CYCLE is due now. -/
def cycleDue (s : State) : State := { s with time := { s.time with nextCycle := some 5000000000 } }
theorem witness_CycleAdvancesScheduleAndBanks :
    (cycleDue base).cfg = some cfg ∧ (cycleDue base).time.nextCycle = some 5000000000 ∧
      reached 5000000000 (cycleDue base).time.now = true ∧ lineWith (cycleDue base) .cyclePulse = some 5 ∧
      lineWith { base with cfg := some { cfg with lines := cfg.lines.set 5 (lineOf .none 0) } } .cyclePulse = none := by
  decide
theorem witness_CycleAdvancesScheduleAndBanks_robot :
    let s := withRobot { Robot.reset with out := #v[.host, .ready, .free], context := .running } (cycleDue base)
    cfg.robots[1] = some robotA ∧ s.robots[1].context ≠ .offline ∧ outBank s.robots[1] .ready = some 1 ∧
      outBank s.robots[1] .link = none ∧ outBank Robot.reset .ready = none ∧ cfg.robots[0] = none ∧
      base.robots[2].context = .offline ∧ base.switch.ports[1].role = .robot 1 := by decide
/-- One miss short of the limit of 3, and one cycle short of the watchdog's 4: the miss makes the robot LOST, the cycle
SAFE. -/
theorem witness_CycleAdvancesScheduleAndBanks_lost :
    let b := { Robot.reset with answerState := .due, missedRun := 2, context := .running }
    let w := { Robot.reset with stale := 3, context := .running }
    robotA.missedLimit ≤ (satInc b.missedRun).toNat ∧ ¬ robotA.missedLimit ≤ b.missedRun.toNat ∧
      robotA.watchdog ≤ (satInc w.stale).toNat ∧ ¬ robotA.watchdog ≤ w.stale.toNat ∧ robotA.nextCycle = false ∧
      (withRobot b (cycleDue base)).robots[1].context ≠ .offline := by decide

/-- Two unsent frames of one CYCLE: one waits, one is in transmission. -/
def unsentTwo : State :=
  cycleDue { base with field := { base.field with
    sendList := [⟨2, 5, [2], 1, 0x120, 3⟩], sending := some ⟨⟨1, 5, [2], 1, 0x120, 3⟩, [9]⟩ } }
theorem witness_CycleAdvancesScheduleAndBanks_unsent :
    unsent unsentTwo ≠ [] ∧ (∀ f ∈ unsent unsentTwo, f.cycle = 5) ∧ (∀ f ∈ unsent unsentTwo, f.robot ≠ 3) ∧
      ((unsent unsentTwo).filter fun f => f.robot == 2).length = 1 := by decide

/-- R127: both are counted, and one event names the two robots and the cycle. -/
theorem test_tx_dropped :
    let t := after .cycle unsentTwo
    (t.robots[1].txDropped, t.robots[2].txDropped, t.robots[3].txDropped) = (1, 1, 0) ∧ t.notice.writeIx = 1 ∧
      t.writer.queue.head? = some (.event 0 (eventWords .txDropped 0 5000000000 unsentTwo.time.state 6 5) 1) := by decide

/-- R134, R128, R124: LOST at the limit, SAFE by the watchdog at once, and SAFE by a pending entry. -/
theorem test_lost_and_safe :
    let s := fun b : Robot => (after .cycle (withRobot b (cycleDue base))).robots[1].context
    s { Robot.reset with answerState := .due, missedRun := 2, context := .running } = .lost ∧
      s { Robot.reset with stale := 3, context := .running } = .safe ∧
      s { Robot.reset with safePending := true, context := .running } = .safe := by decide

/-! #### The requests: the processor's writes are served -/

theorem witness_Serving : Serving base cfg := ⟨rfl, rfl, rfl, rfl⟩
theorem witness_Serving_robot (b : Robot) : Serving (withRobot b base) cfg := ⟨rfl, rfl, rfl, rfl⟩
theorem witness_Serving_granted (v : Level) : Serving (granted v) cfg := ⟨rfl, rfl, rfl, rfl⟩

theorem witness_IllegalTransitionMarksSuspect :
    base.bus.device = .active ∧ true ≠ base.track.pairA ∧ true ≠ base.track.pairB ∧
      recordAt 0 base = some (recordOf 12) := by decide
theorem witness_LegalEdgesCount_forward :
    let s := { base with track := { base.track with acc := 767 } }
    (true ≠ s.track.pairA ∧ false = s.track.pairB) ∧
      (true, false) = forwardPair cfg.track.bLeads (s.track.pairA, s.track.pairB) ∧
      s.track.acc + 256 < (cfg.track.pitchLen : Int) := by decide
theorem witness_LegalEdgesCount_reverse :
    let s := { base with track := { base.track with acc := -768 } }
    (false = s.track.pairA ∧ true ≠ s.track.pairB) ∧
      (false, true) ≠ forwardPair cfg.track.bLeads (s.track.pairA, s.track.pairB) ∧
      -(cfg.track.pitchLen : Int) ≤ s.track.acc - 256 := by decide
theorem witness_LegalEdgesCount_pitch :
    let s := { base with track := { base.track with acc := 768 } }
    (true, false) = forwardPair cfg.track.bLeads (s.track.pairA, s.track.pairB) ∧
      (cfg.track.pitchLen : Int) ≤ s.track.acc + 256 := by decide
theorem witness_LegalEdgesCount_clamp :
    let s := { base with track := { base.track with acc := -769 } }
    (false, true) ≠ forwardPair cfg.track.bLeads (s.track.pairA, s.track.pairB) ∧
      s.track.acc - 256 < -(cfg.track.pitchLen : Int) ∧ s.track.excursion = false ∧
      recordAt 0 s = some (recordOf 12) := by decide
theorem witness_PitchEventMovesTheRing :
    base.cfg = some cfg ∧ base.track.ring ≠ [] ∧ recordAt 1 base = some (recordOf 11) ∧
      1 + 1 < base.track.ring.length := by decide

/-- A ring of six: station and camera at 2, D at 3, E at 4. -/
def cfgPitch : Settings :=
  { cfg with track := { cfg.track with len := 6, decidePos := 3 }, eject := { cfg.eject with pos := 4 }
             robots := #v[none, some { robotA with station := 2 }, some { robotB with station := 1 }, none, none, none,
               none, none] }

/-- Before a pitch event: 14 comes to the station and the camera, 13 with a WAITING slot to D, 12 to E, 11 to E + 1, and 10
leaves. `d` and `e` are the ejection fields of 13 and 12, `j` the ejector list. -/
def pitching (d e : Option Ejection) (j : List EjectEntry) (q : List Record) : State :=
  let robots := base.robots.set 1 { Robot.reset with context := .running }
  { base with
    cfg := some cfgPitch, robots := robots
    track := { base.track with
      ring := [recordOf 15, { recordOf 14 with robot := some 1 },
        { recordOf 13 with robot := some 1, ejection := d,
                           slots := (recordOf 13).slots.set 1 ⟨.waiting, [], false, false⟩ },
        { recordOf 12 with ejection := e }, { recordOf 11 with ejection := some (.armed 9) }, recordOf 10]
      nextSeq := 16, running := true, lastPitch := some 4999900000, period := some 120000, intervals := 1 }
    reject := { base.reject with list := j, exitQueue := q } }

theorem witness_Numbered (d e : Option Ejection) (j : List EjectEntry) (q : List Record) :
    Numbered (pitching d e j q) := by
  refine ⟨⟨fun p h => ?_, fun c h => ?_, fun c h => ?_⟩, by show 6 < 4294967296; decide⟩
  · match p with
    | 0 | 1 | 2 | 3 | 4 => rfl
    | n + 5 => exact absurd h (Nat.not_lt.mpr (Nat.le_add_left 6 n))
  · cases h; rfl
  · cases h; rfl
theorem witness_PlacesFit : PlacesFit cfgPitch := by unfold PlacesFit; decide
theorem witness_ListsFit :
    ListsFit (pitching none none [⟨11, 9, none, false⟩] []) ∧
      ListsFit (pitching none none [⟨9, 9, none, false⟩] [recordOf 9]) := by unfold ListsFit; decide
theorem witness_PitchEventMovesTheRing_stations :
    let s := pitching none none [] []
    (arriving s 2).map (·.seq) = some 14 ∧ meets cfgPitch 2 0 { recordOf 14 with robot := some 1 } (queueFull s) = false ∧
      (atStation s cfgPitch 1 0).isSome = true ∧ s.track.queues[1].length < 4 ∧
      (atStation s cfgPitch 1 1).any (·.fill.isNone) = true := by decide
theorem witness_PitchEventMovesTheRing_estimate :
    let s := pitching none none [] []
    base.track.running = false ∧ base.cfg = some cfg ∧ s.track.running = true ∧ s.track.lastPitch = some 4999900000 ∧
      (20000000 : Int) ≤ 1000 * cfgPitch.track.periodMinUs ∧ (s.time.now - 4999900000).toInt < 1000 * cfgPitch.track.periodMinUs ∧
      s.track.period = some 120000 ∧ s.track.intervals ≠ 0 := by decide
theorem witness_PitchEventMovesTheRing_exit :
    let s := pitching none none [] []
    s.track.ring.getLast? = some (recordOf 10) ∧ s.bus.device = .active ∧ outcomeRingFull s = false ∧
      outcomeRingFull { s with reject := { s.reject with readIx := 1 } } = true ∧ (recordOf 10).empty = false ∧
      (∃ e ∈ [(⟨9, 9, none, false⟩ : EjectEntry)], e.seq = (recordOf 9).seq) ∧
      ∃ e ∈ [(⟨10, 9, none, false⟩ : EjectEntry)], e.seq = (recordOf 10).seq :=
  ⟨rfl, rfl, by decide, by decide, rfl, ⟨_, .head _, rfl⟩, _, .head _, rfl⟩

/-- Eight records wait in the exit queue, the first and the fourth of them with an entry. -/
def fullExit : State :=
  pitching none none [⟨2, 1, some 6000000000, false⟩, ⟨5, 2, some 6000000000, false⟩]
    (recordOf 2 :: [3, 4, 5, 6, 7, 8, 9].map recordOf)
theorem witness_HeadGivenUp :
    ListsFit fullExit ∧ fullExit.bus.device = .active ∧ fullExit.reject.exitQueue.length = 8 ∧
      (∃ e ∈ fullExit.reject.list, e.seq = (recordOf 2).seq) ∧ (∀ x ∈ [3, 4, 5, 6, 7, 8, 9].map recordOf, x.seq ≠ 2) ∧
      fullExit.track.ring.getLast? = some (recordOf 10) ∧ (fullExit.track.ring.getLast?.any fun z => !z.empty) = true := by
  unfold ListsFit; decide

/-- R77, R78: 10 finds the queue full: 2 is given up, UNKNOWN and UNWATCHED (confirmation code 3), and written with 3 and 4;
5 has an entry and stays at the head, 10 at the end. -/
theorem test_exit_queue_full :
    let t := pitchEvent fullExit
    t.reject.exitQueue.map (·.seq) = [5, 6, 7, 8, 9, 10] ∧ t.reject.list.map (·.seq) = [5, 13] ∧ t.reject.unknown = 1 ∧
      t.reject.writeIx = 3 ∧ (logged t).getLast? = some [eventCode .ejectFault, 0, 4, 2] ∧
      t.writer.queue.reverse.take 3 = [.outcome 0x170 (outcomeWords (recordOf 4)) 3,
        .outcome 0x160 (outcomeWords (recordOf 3)) 2,
        .outcome 0x150 (outcomeWords { recordOf 2 with confirm := some .unknown }) 1] := by decide

/-- R30: 120,000 ns moves by floor((20,000,000 − 120,000) / 4), the measured 100,000 ns clamped to P_min. -/
theorem test_estimate : (pitchEvent (pitching none none [] [])).track.period = some 5090000 := by decide
theorem witness_StopTimeoutStopsTheLine :
    let s := { base with track := { base.track with running := true, stopAt := some 5000000000 }
                         reject := { base.reject with list := [⟨10, 1, some 5, false⟩] } }
    s.track.running = true ∧ due s.track.stopAt s.time.now = true ∧ ∀ e ∈ s.reject.list, e.deadline.isSome = true := by
  decide
theorem witness_StopTimeoutStopsTheLine_cancels :
    let s := pitching none none [⟨11, 9, none, false⟩, ⟨12, 8, none, true⟩, ⟨13, 7, some 9, false⟩] []
    let u := { s with track := { s.track with stopAt := some 5000000000 } }
    u.track.running = true ∧ due u.track.stopAt u.time.now = true ∧ u.cfg = some cfgPitch ∧
      recordAt 4 u = some { recordOf 11 with ejection := some (.armed 9) } ∧ cfgPitch.eject.pos = 4 ∧
      recordAt 3 u = some (recordOf 12) ∧
      (u.reject.list.filter fun e => e.deadline.isNone).map (·.seq) = [11, 12] := by decide

/-- R74: the ARMED entry at E is missed, the one at E − 1 is left for the pitch. -/
theorem test_cancelled_at_stop :
    let s := pitching none none [⟨11, 9, none, false⟩, ⟨12, 8, none, true⟩] []
    let t := after .stopTimeout { s with track := { s.track with stopAt := some 5000000000 } }
    (recordAt 4 t).bind (·.ejection) = some .missed ∧ (recordAt 3 t).bind (·.ejection) = some .onPitch ∧
      t.reject.missed = 1 := by decide

/-- With the MARK latch set. -/
def marking (low : Word) : State := { base with track := { base.track with markLatch := low } }
theorem witness_MarkForcesTheRecord_taken :
    Serving (marking 11) cfg ∧ positionOf ((0 : Word) ++ (marking 11).track.markLatch) (marking 11) = some 1 ∧
      recordAt 1 (marking 11) = some (recordOf 11) ∧ 1 < cfg.track.decidePos ∧ (recordOf 11).empty = false :=
  ⟨⟨rfl, rfl, rfl, rfl⟩, by decide, by decide, by decide, rfl⟩
theorem witness_MarkForcesTheRecord_late :
    positionOf ((0 : Word) ++ (marking 10).track.markLatch) (marking 10) = some 2 ∧
      recordAt 2 (marking 10) = some (recordOf 10) ∧ cfg.track.decidePos ≤ 2 := by decide
theorem witness_MarkForcesTheRecord_unknown :
    positionOf ((0 : Word) ++ (marking 13).track.markLatch) (marking 13) = none ∧
      positionOf ((0 : Word) ++ (marking 9).track.markLatch) (marking 9) = none := by decide
theorem witness_MarkForcesTheRecord_empty :
    let s := { marking 12 with track := { (marking 12).track with ring := [{ recordOf 12 with empty := true }] } }
    positionOf ((0 : Word) ++ s.track.markLatch) s = some 0 ∧ recordAt 0 s = some { recordOf 12 with empty := true } := by decide
theorem witness_LineResetRefillsTheRing :
    Serving base cfg ∧ base.track.running = false ∧
      Serving { base with track := { base.track with running := true } } cfg :=
  ⟨⟨rfl, rfl, rfl, rfl⟩, rfl, ⟨rfl, rfl, rfl, rfl⟩⟩

/-! #### Cameras and rejection -/

theorem witness_PulsesAndReadyTimesEnd :
    let s := withCamera { Camera.reset with pulseEnd := some 5000000000, readyAt := some 5000000000 } base
    due s.cameras[1].pulseEnd s.time.now = true ∧ due s.cameras[1].readyAt s.time.now = true ∧
      ∀ l : Fin 16, s.lines.line[l].deferred = none := by decide
/-- Every pulse ends now, and behind that of line `l` the record of GENERAL_OUT waits. -/
def deferring (l : Fin 16) : State :=
  { withCamera { Camera.reset with pulseEnd := some 5000000000 } base with
    reject := { base.reject with pulseEnd := some 5000000000 }
    lines := { base.lines with
      cyclePulseEnd := some 5000000000
      line := base.lines.line.set l { lineState cfg.lines[l] with deferred := some cfg.lines[9] } } }
theorem witness_PulsesAndReadyTimesEnd_deferred :
    due (some 5000000000) base.time.now = true ∧ cfg.lines[8].fn = .trigger 1 ∧ cfg.lines[7].fn = .ejector ∧
      cfg.lines[5].fn = .cyclePulse ∧
      ∀ l : Fin 16, l = 8 ∨ l = 7 ∨ l = 5 → (deferring l).lines.line[l].record = some cfg.lines[l] ∧
        (deferring l).lines.line[l].deferred = some cfg.lines[9] := by decide
/-- R174: the ejector line and the cycle pulse line take the record that waited. -/
theorem test_deferred_taken :
    let x := (after .ejectorPulseEnd (deferring 7)).lines.line[7]
    let y := (after .cyclePulseEnd (deferring 5)).lines.line[5]
    (x.record, x.deferred) = (some cfg.lines[9], none) ∧ (y.record, y.deferred) = (some cfg.lines[9], none) := by decide
theorem witness_PulsesAndReadyTimesEnd_ejector :
    let s := { base with reject := { base.reject with pulseEnd := some 5000000000 }
                         lines := { base.lines with cyclePulseEnd := some 5000000000 } }
    due s.reject.pulseEnd s.time.now = true ∧ due s.lines.cyclePulseEnd s.time.now = true ∧
      ∀ l : Fin 16, s.lines.line[l].deferred = none := by decide

def verdictBytes : List Byte := frameOf 2 [3, 200, 1, 0, 0, 0, 0, 0, 0]
def waitingTrigger : Trigger := ⟨200, 11, 4900000000, .free, .waiting⟩
/-- A VERDICT frame from port 2 with a pending entry of camera 1 in a state. -/
def verdictOf (bs : List Byte) (l : List Trigger) : State :=
  withFrame (.held 2 (.verdict 1)) bs (withCamera { Camera.reset with pending := l } base)
theorem witness_VerdictFrame (l : List Trigger) :
    VerdictFrame (verdictOf verdictBytes l) cfg cameraA 1 2 (receivingOf (.held 2 (.verdict 1)) verdictBytes) :=
  ⟨rfl, rfl, rfl, rfl, rfl⟩
theorem witness_VerdictFrame_malformed :
    VerdictFrame (verdictOf (verdictBytes.take 26) []) cfg cameraA 1 2
        (receivingOf (.held 2 (.verdict 1)) (verdictBytes.take 26)) ∧
      ¬ VerdictFormed (verdictBytes.take 26) :=
  ⟨⟨rfl, rfl, rfl, rfl, rfl⟩, by unfold VerdictFormed; decide⟩
theorem witness_VerdictFillsTheSlot (x : TrigState) :
    VerdictFormed verdictBytes ∧ ¬ VerdictFormed (verdictBytes.set 21 16) ∧ VerdictFormed (verdictBytes.set 21 15) ∧
      [{ waitingTrigger with state := x }].find? (fun e => e.count == byteAt verdictBytes 19) =
        some { waitingTrigger with state := x } ∧
      ∀ e ∈ [{ waitingTrigger with count := 199 }], e.count ≠ byteAt verdictBytes 19 :=
  ⟨by unfold VerdictFormed; decide, by unfold VerdictFormed; decide, by unfold VerdictFormed; decide, rfl, by decide⟩

/-- R51, R52: three defects declared and three carried under a stored maximum of 2: two kept, TRUNCATED, not SHORT. -/
theorem test_verdict_truncated :
    verdictGives ((verdictBytes.set 21 3).set 20 2 ++ [0, 1, 0, 2, 0, 3]) 2 = ⟨.fail, [1, 2], true, false⟩ := by decide
theorem witness_VerdictFillsTheSlot_pitch :
    let s := pitching none none [] []
    let b := withCamera { Camera.reset with readyAt := some 5000000001 } s
    cfgPitch.cameras[1] = some cameraA ∧ selected s cfgPitch 1 = some { recordOf 14 with robot := some 1 } ∧
      s.cameras[1].readyAt = none ∧ selected b cfgPitch 1 = some { recordOf 14 with robot := some 1 } ∧
      b.cameras[1].readyAt.isSome = true ∧ selected s cfgPitch 2 = none ∧
      expires s cfgPitch 1 = true ∧ expires s cfgPitch 2 = false ∧
      (arriving s cfgPitch.track.decidePos).map (·.seq) = some 13 := by decide
theorem witness_DecisionFollowsThePolicy_pitch :
    let s := pitching none (some (.armed 8)) [⟨12, 8, none, false⟩, ⟨11, 9, none, false⟩] []
    ListsFit s ∧ (arriving s 3).map (·.empty) = some false ∧
      (arriving s 4).map (·.ejection) = some (some (.armed 8)) ∧ (arriving s 5).map (·.ejection) = some (some (.armed 9)) ∧
      (arriving (pitching none (some .onPitch) [] []) 4).map (·.ejection) = some (some .onPitch) := by
  unfold ListsFit; decide

/-- R61, R62, R65: 13 is decided REJECT at D = E − 1 and, the estimate settled, armed 5,090,000 + floor(128 × 5,090,000 /
256) − 500,000 ns ahead; 11 is missed at E + 1 (R67). -/
theorem test_armed_at_pitch :
    let t := pitchEvent (pitching none none [⟨11, 9, none, false⟩] [])
    (recordAt 3 t).bind (·.ejection) = some (.armed 5007135000) ∧ t.reject.list = [⟨13, 5007135000, none, false⟩] ∧
      t.reject.missed = 1 := by decide

/-- 14 is skipped by camera 1, which is not ready, and the WAITING slot of 13 expires at D; 12, ARMED, has no time left under
a lead of 20 ms and is fired late, 11 is missed, and 13, decided REJECT at D = E − 1, is fired late too: MISSING, SKIPPED,
MISSED, LATE and LATE (R47, R55, R65, R66, R67). -/
def latePitch : State :=
  let s := pitching none (some (.armed 8)) [⟨12, 8, none, false⟩, ⟨11, 9, none, false⟩] []
  withCamera { Camera.reset with readyAt := some 5000000001 }
    { s with cfg := some { cfgPitch with eject := { cfgPitch.eject with leadUs := 20000 } } }
theorem test_faults_at_pitch :
    let t := pitchEvent latePitch
    logged t = [[eventCode .cameraFault, 1, 0x0103, 13], [eventCode .cameraFault, 1, 0x0104, 14],
      [eventCode .ejectFault, 0, 2, 11], [eventCode .ejectFault, 0, 1, 12], [eventCode .ejectFault, 0, 1, 13]] ∧
      t.reject.late = 2 ∧ t.reject.onPitch = 0 ∧ t.reject.fired = 0 ∧ t.reject.missed = 1 := by decide
theorem witness_EjectorAtPitch :
    (arriving latePitch 4).map (·.ejection) = some (some (.armed 8)) ∧
      latePitch.reject.exitQueue.length < 8 ∧ latePitch.cfg.isSome = true ∧ latePitch.track.ring ≠ [] := by decide
theorem witness_DecisionFollowsThePolicy :
    reasonSet base (recordOf 10) = 0 ∧ reasonSet base { recordOf 10 with forced := true } ≠ 0 ∧
      recordOf 10 ∈ base.track.ring := by decide

/-- An ARMED entry whose time is reached. -/
def armedEntry : EjectEntry := ⟨10, 5000000000, none, false⟩
theorem witness_FireTimeFiresTheEjector :
    let s := { base with reject := { base.reject with list := [armedEntry] } }
    s.cfg = some cfg ∧ s.reject.list.find? (fun x => x.deadline.isNone && reached x.fire s.time.now) = some armedEntry ∧
      lineWith s .ejectConfirm = none ∧ (lineWith { s with cfg := some cfgConfirm } .ejectConfirm).isSome = true := by
  decide
/-- Four AWAITING entries and an ARMED one due, in a pulse that runs. -/
def fullList : List EjectEntry :=
  [⟨12, 1, some 7, true⟩, ⟨11, 2, some 7, true⟩, ⟨9, 3, some 8, false⟩, ⟨8, 4, some 8, true⟩]
theorem witness_EntryJoins :
    let s := { base with reject := { base.reject with list := fullList, exitQueue := [recordOf 12, recordOf 11] } }
    base.reject.list.length < 4 ∧ s.reject.list = ⟨12, 1, some 7, true⟩ :: fullList.tail ∧ 4 ≤ s.reject.list.length ∧
      s.bus.device = .active ∧ (joinList armedEntry s).reject.exitQueue.map (·.seq) = [11] := by decide
theorem witness_FireTimeFiresTheEjector_merged :
    let s := { base with cfg := some cfgConfirm
                         reject := { base.reject with list := fullList ++ [armedEntry], pulseEnd := some 5000000001 } }
    s.reject.list.find? (fun x => x.deadline.isNone && reached x.fire s.time.now) = some armedEntry ∧
      (lineWith s .ejectConfirm).isSome = true ∧ s.reject.pulseEnd.isSome = true ∧
      4 ≤ (s.reject.list.filter fun x => x.seq != armedEntry.seq).length := by decide

/-- R69, step 3: the AWAITING entry of the merged pulse takes the new deadline. -/
theorem test_merged_deadline :
    let s := { base with cfg := some cfgConfirm
                         reject := { base.reject with
                           list := [⟨12, 1, some 7, true⟩, armedEntry], pulseEnd := some 5000000001 } }
    ((after .fireTime s).reject.list.map (·.deadline)) = [some 5070000000, some 5070000000] := by decide
theorem witness_ConfirmDeadlineUnconfirms :
    let s := { base with reject := { base.reject with list := [⟨10, 1, some 5000000000, false⟩] } }
    s.reject.list.find? (fun x => due x.deadline s.time.now) = some ⟨10, 1, some 5000000000, false⟩ := by decide
theorem witness_PolicyRequestsSetThePolicy :
    Serving (granted .maintain) cfg ∧ grantedLevel (granted .maintain) = .maintain ∧
      grantedLevel (granted .adjust) ≠ .maintain ∧ (granted .adjust).reject.policy = .normal :=
  ⟨⟨rfl, rfl, rfl, rfl⟩, rfl, by decide, rfl⟩

/-! #### The access path and the notice words -/

/-- A read of the processor in flight. -/
def reading (a : Access) (s : State) : State := { s with bus := { s.bus with access := some a } }
def aRead : Access := ⟨false, 0x2000, .both, 0, .pass, false, false⟩

/-- With the device in a state. -/
def inDevice (x : DeviceState) : State := { base with bus := { base.bus with device := x } }

theorem witness_ProcessorAccessIsPresented :
    base.bus.access = none ∧ base.bus.device ≠ .loading ∧ base.bus.device ≠ .reloading ∧
      (inDevice .loading).bus.device = .loading ∧ (inDevice .reloading).bus.access = none ∧
      (reading aRead base).bus.access.isSome = true := by decide

/-- The first regions of the table that span an address, and a robot's bank regions, as `ReadCase` asks for them. -/
theorem firstRegion_of_find (p : Region → Prop) [DecidablePred p] (c : Settings) (g : Region)
    (h : (c.regions.find? fun x => decide (p x)) = some g) : FirstRegion p c g := by
  obtain ⟨hp, xs, ys, e, hx⟩ := List.find?_eq_some_iff_append.mp h
  exact ⟨xs, ys, e, of_decide_eq_true hp, fun y hy => by simpa using hx y hy⟩
theorem inRegion_of_find (a : Nat) (g : Region) (hp : ¬ (0x1000 ≤ a ∧ a < 0x2000))
    (h : (cfg.regions.find? fun x => decide (x.base ≤ a ∧ a < x.base + x.len)) = some g) : InRegion cfg a g :=
  ⟨hp, firstRegion_of_find (fun x => x.base ≤ a ∧ a < x.base + x.len) cfg g h⟩
theorem witness_ReadCase :
    OnPage cfg 0x1003 ∧ (∀ g ∈ cfg.regions, ¬ Spans 0x1B0 g) ∧ InRegion cfg 0x140 ⟨0x140, 16, .limits, 0, false⟩ ∧
      InRegion cfg 0x103 ⟨0x100, 16, .outputWindow, 1, false⟩ ∧ InRegion cfg 0x104 ⟨0x100, 16, .outputWindow, 1, false⟩ ∧
      InRegion cfg 0x111 ⟨0x110, 16, .inputWindow, 1, false⟩ ∧ InRegion cfg 0x112 ⟨0x110, 16, .inputWindow, 1, false⟩ ∧
      robotA.nOut = 4 ∧ robotA.nIn = 2 ∧ cfg.robots[1] = some robotA ∧
      (∃ o, FirstRegion (fun h => h.kind = .outputBanks ∧ h.robot = 1) cfg o) ∧
      ∃ o, FirstRegion (fun h => h.kind = .inputBanks ∧ h.robot = 1) cfg o :=
  ⟨by unfold OnPage; decide, by unfold Spans; decide, inRegion_of_find _ _ (by decide) rfl,
    inRegion_of_find _ _ (by decide) rfl, inRegion_of_find _ _ (by decide) rfl, inRegion_of_find _ _ (by decide) rfl,
    inRegion_of_find _ _ (by decide) rfl, rfl, rfl, rfl, ⟨_, firstRegion_of_find _ cfg _ rfl⟩,
    ⟨_, firstRegion_of_find _ cfg _ rfl⟩⟩
theorem test_reads :
    classify base false 0x103 .both = .window false 1 0x120 4 3 true ∧ classify base false 0x104 .both = .pass ∧
      classify base false 0x111 .upper = .window true 1 0x130 2 1 false ∧ classify base false 0x112 .both = .pass ∧
      classify base false 0x1003 .both = .pass := by decide
theorem witness_ProcessorAccessIsPresented_held :
    let s := withRobot busyRobot base
    classify s true 0x100 .both = .window false 1 0x120 4 0 false ∧ checking s.robots[1] = true := by decide

/-- The writer waits, and has waited through four grants of the processor. -/
def lateWriter : State :=
  { base with bus := { base.bus with waits := ⟨0, 0, 0, 4⟩ }
              writer := { queue := [], current := some ⟨.capture, [(0x102A, 5), (0x102B, 6)]⟩ } }

theorem witness_WritesAreRefusedOrWait :
    asWrite base .lineReset = some (0x1000 + 40, .both, 1) ∧ base.bus.access = none ∧
      (inDevice .loading).bus.device = .loading ∧ (inDevice .reloading).bus.device = .reloading := by decide
/-- R95: a write in RELOADING counts, and is recorded as the first, in the reload's count and record too. -/
theorem test_reload_refusal :
    let s := { inDevice .reloading with bus := { (inDevice .reloading).bus with refusals := 8, reloadRefusals := 65535 } }
    let t := after (.memoryWrite 0x2000 .lower 7) s
    t.bus.refusals = 9 ∧ t.bus.reloadRefusals = 65535 ∧ t.bus.reloadRecord.isSome = true ∧
      t.bus.reloadRecord = t.bus.record ∧ (after .lineReset (inDevice .loading)).bus.reloadRecord = none := by decide
theorem witness_WritesAreRefusedOrWait_waits :
    asWrite lateWriter .policyNormal = some (0x1000 + 34, .both, 0) ∧ lateWriter.bus.access = none ∧
      lateWriter.bus.device ≠ .loading ∧ lateWriter.bus.device ≠ .reloading ∧
      arbiter true lateWriter ≠ some .processor := by decide

/-- With the effective level ADJUST, capped by a RUNNING line. -/
def cappedAtAdjust : State := { granted .maintain with track := { base.track with running := true } }

theorem witness_InRegion :
    InRegion cfg 0x14F ⟨0x140, 16, .limits, 0, false⟩ ∧ InRegion cfg 0x19F ⟨0x190, 16, .guarded, 0, true⟩ ∧
      InRegion cfg 0x1A0 ⟨0x1A0, 16, .guarded, 0, false⟩ ∧ InRegion cfg 0x110 ⟨0x110, 16, .inputWindow, 1, false⟩ :=
  ⟨inRegion_of_find _ _ (by decide) rfl, inRegion_of_find _ _ (by decide) rfl, inRegion_of_find _ _ (by decide) rfl,
    inRegion_of_find _ _ (by decide) rfl⟩
theorem witness_GuardedWritesNeedTheirLevel_page :
    arbiter true base = some .processor ∧ OnPage cfg 0x1000 ∧ OnPage cfg 0x1FFF ∧ ¬ OnPage cfg 0x2000 ∧
      (0x1003 - cfg.page ∈ [3, 4, 5]) ∧ (0x1007 - cfg.page ∈ [6, 7]) ∧
      0x1029 - cfg.page = 41 ∧ 0x102A - cfg.page = 42 ∧ 0x1030 - cfg.page = 48 ∧ 0x13FF - cfg.page = 1023 ∧
      0x1400 - cfg.page = 1024 ∧ base.bus.storing = false := by unfold OnPage; decide
theorem witness_GuardedWritesNeedTheirLevel_window :
    robotA.motion ≤ 0x103 - 0x100 ∧ 0x103 - 0x100 < robotA.nOut ∧ robotA.nOut ≤ 0x104 - 0x100 ∧ checking base.robots[1] = false ∧
      cfg.robots[1] = some robotA ∧ effectiveLevel base = .none := by decide
theorem witness_GuardedWritesNeedTheirLevel :
    base.cfg = some cfg ∧ effectiveLevel base = .none ∧ effectiveLevel (granted .view) = .view ∧
      effectiveLevel cappedAtAdjust ≠ .maintain ∧ grantedLevel cappedAtAdjust = .maintain ∧
      keyLevel cappedAtAdjust = .maintain := by decide
theorem witness_PassedWritesReachMemory :
    base.bus.access = none ∧ arbiter true base = some .processor ∧
      effectiveLevel (granted .maintain) = .maintain ∧ effectiveLevel cappedAtAdjust = .adjust ∧
      arbiter true cappedAtAdjust = some .processor ∧ (granted .maintain).bus.storing = false ∧
      (inDevice .configFault).bus.device = .configFault := by decide
theorem witness_PassedWritesReachMemory_window :
    InRegion cfg 0x102 ⟨0x100, 16, .outputWindow, 1, false⟩ ∧ cfg.robots[1] = some robotA ∧
      0x102 - 0x100 < robotA.motion ∧ robotA.motion ≤ 0x103 - 0x100 ∧ 0x103 - 0x100 < robotA.nOut ∧
      checking base.robots[1] = false ∧ outBank base.robots[1] .host = some 0 :=
  ⟨inRegion_of_find _ _ (by decide) rfl, rfl, by decide, by decide, by decide, rfl, rfl⟩
theorem witness_MemorySlotServesOneRequester :
    base.bus.access = none ∧ (∀ g, agentWaiting base g = false) ∧
      (reading aRead base).bus.access = some aRead ∧ arbiter true (reading aRead base) = some .processor ∧
      agentWaiting lateWriter .writer = true ∧ 4 ≤ waitOf lateWriter.bus.waits .writer ∧
      arbiter false lateWriter = some .writer ∧
      lateWriter.writer.current = some ⟨.capture, [(0x102A, 5), (0x102B, 6)]⟩ :=
  ⟨rfl, fun g => by cases g <;> rfl, rfl, rfl, rfl, by decide, rfl, rfl⟩
theorem witness_MemorySlotServesOneRequester_processor :
    let w : Access := { aRead with write := true }
    let f : Access := { w with addr := 0x140, fate := .classed false }
    (reading w base).bus.access = some w ∧ arbiter true (reading w base) = some .processor ∧
      classTest (reading f base) f.fate = some .grantLevel ∧ arbiter true (reading f base) = some .processor := by decide
theorem witness_WindowReads :
    let x : Access := { aRead with addr := 0x103, fate := .window false 1 0x120 4 3 true }
    let y : Access := { aRead with addr := 0x111, fate := .window true 1 0x130 2 1 false }
    let s := withRobot { busyRobot with out := #v[.host, .link, .free] } base
    (reading x s).bus.access = some x ∧ x.held = false ∧ arbiter true (reading x s) = some .processor ∧
      outBank s.robots[1] .host = some 0 ∧ arbiter true (reading y s) = some .processor ∧
      inBank s.robots[1] .hostIn = some 1 := by decide
theorem witness_WaitingWrites :
    let x : Access := ⟨true, 0x1028, .both, 1, .request 24, false, true⟩
    let y : Access := ⟨true, 0x102, .lower, 9, .window false 1 0x120 4 2 false, false, true⟩
    asWrite base .lineReset = some (0x1028, .both, 1) ∧ classify base true 0x1028 .both = x.fate ∧
      classTest base x.fate = none ∧ arbiter true (reading x base) = some .processor ∧
      base.bus.device ≠ .loading ∧ base.bus.device ≠ .reloading ∧
      asWrite base (.memoryWrite 0x102 .lower 9) = some (0x102, .lower, 9) ∧
      classify base true 0x102 .lower = y.fate ∧ checking base.robots[1] = false ∧ classTest base y.fate = none := by decide

/-- An answer of robot 1 in deposit, and a frame in transmission. -/
def depositing : State := withRobot busyRobot { base with field := { base.field with deposits := [1] } }
def sendingOne : State := { base with field := { base.field with sending := some ⟨⟨1, 5, [], 1, 0x120, 3⟩, [9]⟩ } }
theorem witness_ExchangeSlots :
    arbiter (processorWaiting sendingOne) sendingOne = some .reader ∧
      arbiter (processorWaiting depositing) depositing = some .deposit ∧ depositor depositing = some 1 ∧
      busyRobot.answer.map (·.left) = some [1] := by decide

/-- A check of robot 1 in a stage of its word pass. -/
def inStage (x : WordStage) (u : Option (List LimitEntry)) : State :=
  withRobot busyRobot { base with engine := ⟨[1], some ⟨1, [], u, 0, x, none⟩⟩ }
theorem witness_EngineSlots :
    arbiter (processorWaiting (inStage .read none)) (inStage .read none) = some .engine ∧
      arbiter (processorWaiting (inStage (.writeBack 7) (some []))) (inStage (.writeBack 7) (some [])) = some .engine ∧
      outBank busyRobot .check = some 0 ∧ outBank busyRobot .host = some 1 := by decide

/-- The writer waits with a list of write-outs and with one in progress. -/
def writingOut (js : List Job) (x : Option Writing) : State := { base with writer := ⟨js, x⟩ }
theorem witness_WriterSlots :
    arbiter (processorWaiting (writingOut [.mirror .flags] none)) (writingOut [.mirror .flags] none) = some .writer ∧
      jobWords (writingOut [.mirror .flags] none) (.mirror .flags) = [(0x1000, 0)] ∧
      (writingOut [] (some ⟨.copies, [(5, 6)]⟩)).writer.current = some ⟨.copies, [(5, 6)]⟩ ∧
      arbiter (processorWaiting (writingOut [] (some ⟨.outcome 0x150 [] 1, [(0x10D0, 1)]⟩)))
        (writingOut [] (some ⟨.outcome 0x150 [] 1, [(0x10D0, 1)]⟩)) = some .writer := by decide
/-- A container that has left, decided and rejected, its firing confirmed. -/
def leaving : Record :=
  { recordOf 10 with
    robot := some 1, fill := some ⟨true, 330⟩, decision := some ⟨.reject, 0x005⟩
    ejection := some (.fired .late 5 .locked), confirm := some .confirmed
    slots := (recordOf 10).slots.set 1 ⟨.fail, [7, 8], true, false⟩ }
theorem witness_WriteOutsShow :
    let s := { base with time := { base.time with capture := some ⟨5, .locked, 9⟩ } }
    s.time.capture = some ⟨5, .locked, 9⟩ ∧ leaving.decision = some ⟨.reject, 0x005⟩ ∧ leaving.robot = some 1 ∧
      outcomeOf leaving = some (3, 1) ∧ (∀ k : Fin 4, leaving.slots[k].state ≠ .waiting) ∧
      ({ Loader.reset with accepted := some cfg } : Loader).accepted = some cfg := by decide
/-- Every value of every mirror of a small state fits its field. -/
theorem witness_Packed (m : Mirror) (h : m ∈ entryMirrors) :
    ∀ x ∈ mirrorLayout (withRobot busyRobot base) m, ∀ f ∈ x.2, f.value < 2 ^ f.width := by
  revert h; revert m; decide +kernel

/-- 13.3, 13.4: the words of an outcome record, of a port, of a line and of robot 1's status. -/
theorem test_layouts :
    (outcomeWords leaving).drop 6 = [5, 0x3501, 330, 0x0A00, 0, 0, 7, 0, 0, 0] ∧
      (portWords base 2)[0]? = some 0x9800 ∧ lineWord base 2 = 0x1900 ∧
      (robotWords (withRobot busyRobot base) 1).take 3 = [0x5800, 0x0312, 0x0040] := by decide
theorem witness_StagedSlots :
    let s := writingOut [.readImage, .mirror .flags] none
    let u := { writingOut [] (some ⟨.readImage, []⟩) with loader := { Loader.reset with image := [300] } }
    arbiter (processorWaiting s) s = some .writer ∧ s.writer.queue = .readImage :: [.mirror .flags] ∧
      arbiter (processorWaiting u) u = some .writer ∧ badLength 300 = false ∧ ¬ 300 ≤ u.loader.image.length + 1 ∧
      badLength ((s.loader.image ++ [s.sram.readWord (pageBase s + 1024)]).headD 0).toNat = true := by decide
theorem witness_NoticeWordsTakeWrites : Serving base cfg ∧ base.sram.wf = true := ⟨⟨rfl, rfl, rfl, rfl⟩, rfl⟩

/-- R179: NOTICE_N follows the highest flag and its enable, while the global enable is 1. -/
theorem test_notice_line :
    let s := fun (g : Bool) (f e : Word) =>
      noticeAsserted { base with notice := { base.notice with globalEnable := g, flags := f, enables := e } }
    s true 0x8001 0x8000 = true ∧ s true 0x8001 0x4002 = false ∧ s false 0xFFFF 0xFFFF = false := by decide
theorem witness_ReadIndicesStayInTheSpan :
    let s := { base with reject := { base.reject with writeIx := 1, readIx := 3 }
                         notice := { base.notice with writeIx := 1, readIx := 63 } }
    let n := outcomeSlots s
    (Serving s cfg ∧ n = 4) ∧ ((1 : Word).toNat < n ∧ ((1 : Word).toNat + n - 3) % n ≤ (1 + n - 3) % n) ∧
      ¬ ((2 : Word).toNat < n ∧ ((2 : Word).toNat + n - 3) % n ≤ (1 + n - 3) % n) ∧
      ((1 : Word).toNat < 64 ∧ ((1 : Word).toNat + 64 - 63) % 64 ≤ (1 + 64 - 63) % 64) ∧
      ¬ ((64 : Word).toNat < 64 ∧ ((64 : Word).toNat + 64 - 63) % 64 ≤ (1 + 64 - 63) % 64) :=
  ⟨⟨⟨rfl, rfl, rfl, rfl⟩, by decide⟩, by decide, by decide, by decide, by decide⟩
theorem witness_GeneralOutSetsMaskedLevels : Serving base cfg ∧ configuredOutputs base = 1 :=
  ⟨⟨rfl, rfl, rfl, rfl⟩, by decide⟩
theorem witness_BadValuesAndRearm :
    BadTarget.control.bad 0 = true ∧ BadTarget.control.bad 5 = true ∧ BadTarget.policy.bad 3 = true ∧
      BadTarget.grant.bad 0x0400 = true ∧ BadTarget.port.bad 0x0110 = true ∧ BadTarget.port.bad 0x0400 = true := by decide

/-! #### Output banks -/

theorem witness_HandoverOf_performed :
    HandoverOf base cfg robotA 1 1 ∧ checking base.robots[1] = false ∧ maskTaken base robotA 1 ≠ 0 ∧
      outBank base.robots[1] .host = some 0 ∧ outBank base.robots[1] .free = some 1 :=
  ⟨⟨⟨rfl, rfl, rfl, rfl⟩, rfl, by decide, by decide, rfl⟩, rfl, by decide, rfl, rfl⟩
theorem witness_HandoverOf_superseding :
    let s := withRobot { Robot.reset with out := #v[.link, .host, .ready], masks := #v[0, 0, 2] } base
    HandoverOf s cfg robotA 1 3 ∧ checking s.robots[1] = false ∧ maskTaken s robotA 3 ≠ 0 ∧ dropsRecipe s robotA 3 ∧
      ¬ dropsRecipe s robotA 1 ∧ outBank s.robots[1] .host = some 1 ∧ outBank s.robots[1] .free = none ∧
      outBank s.robots[1] .ready = some 2 :=
  ⟨⟨⟨rfl, rfl, rfl, rfl⟩, rfl, by decide, by decide, rfl⟩, rfl, by decide, by unfold dropsRecipe; decide,
    by unfold dropsRecipe; decide, rfl, rfl, rfl⟩
theorem witness_HandoverPendsOverrunsOrIsIgnored_pends :
    let s := withRobot { busyRobot with pendingMask := none } base
    HandoverOf s cfg robotA 1 1 ∧ checking s.robots[1] = true ∧ maskTaken s robotA 1 ≠ 0 :=
  ⟨⟨⟨rfl, rfl, rfl, rfl⟩, rfl, by decide, by decide, rfl⟩, rfl, by decide⟩
theorem witness_HandoverPendsOverrunsOrIsIgnored_overrun :
    Serving (withRobot busyRobot base) cfg ∧ (withRobot busyRobot base).robots[1].pendingMask = some 1 :=
  ⟨⟨rfl, rfl, rfl, rfl⟩, rfl⟩
theorem witness_HandoverPendsOverrunsOrIsIgnored_ignored :
    (3 : Nat) < (4 : Word).toNat ∧ cfg.robots[0] = none ∧ HandoverOf base cfg robotA 1 2 ∧
      maskTaken base robotA 2 = 0 ∧ HandoverOf base cfg robotB 2 2 ∧ maskTaken base robotB 2 = 0 ∧
      robotB.nOut = robotB.motion :=
  ⟨by decide, rfl, ⟨⟨rfl, rfl, rfl, rfl⟩, rfl, by decide, by decide, rfl⟩, by decide,
    ⟨⟨rfl, rfl, rfl, rfl⟩, rfl, by decide, by decide, rfl⟩, by decide, rfl⟩
theorem witness_HandoverPendsOverrunsOrIsIgnored_level :
    HandoverOf base cfg robotA 1 2 ∧ maskTaken base robotA 2 = 0 ∧ robotA.nOut ≠ robotA.motion ∧
      dropsRecipe base robotA 2 :=
  ⟨⟨⟨rfl, rfl, rfl, rfl⟩, rfl, by decide, by decide, rfl⟩, by decide, by decide, by unfold dropsRecipe; decide⟩

/-- A check of robot 1 whose limit words are read: entry 0 valid, entry 1 bad by its offset. -/
def limitsRead : CheckRun :=
  ⟨1, [2, 0x8000, 10, 20, 3, 0x8001, 0, 0] ++ List.replicate 120 0, none, 0, .read, none⟩
theorem witness_ChecksStartAndJudgeLimits :
    let s := { base with engine := ⟨[1], none⟩ }
    let u := { base with engine := ⟨[1], some limitsRead⟩ }
    (s.engine.current = none ∧ s.engine.queue = [1]) ∧ u.engine.current = some limitsRead ∧ limitsRead.used = none ∧
      128 ≤ limitsRead.limitWords.length ∧ robotCfg u 1 = some robotA := by decide +kernel

/-- R110: a word below the minimum becomes the minimum, one above the maximum the maximum, in the entry's kind. -/
theorem test_clamp :
    clampWord ⟨0, true, 0xFFF6, 10⟩ 0xFFF0 = 0xFFF6 ∧ clampWord ⟨0, true, 0xFFF6, 10⟩ 11 = 10 ∧
      clampWord ⟨0, false, 5, 10⟩ 0xFFF0 = 10 ∧ clampWord ⟨0, false, 5, 10⟩ 4 = 5 ∧
      clampWord ⟨0, true, 0xFFF6, 10⟩ 0 = 0 := by decide
theorem witness_ChecksStartAndJudgeLimits_clamps :
    below true 0xFFF0 0xFFF6 = true ∧ below true 10 11 = true ∧ below false 10 0xFFF0 = true ∧ below false 4 5 = true ∧
      below true 0 0xFFF6 = false ∧ below true 10 0 = false ∧ below true 10 0xFFF6 = false := by decide
/-- A check of robot 1 with its last word written. -/
def written : CheckRun := ⟨1, [], some [], 4, .read, none⟩
def checked (b : Robot) : State := withRobot b { base with engine := ⟨[1], some written⟩ }
theorem witness_CheckCompletesIntoReady :
    CheckWritten (checked { busyRobot with pendingMask := none }) cfg written robotA 0 ∧
      CheckWritten (checked busyRobot) cfg written robotA 0 ∧ LawOne busyRobot ∧
      outBank busyRobot .ready = some 2 ∧ (checked busyRobot).robots[1].pendingMask = some 1 ∧
      outBank busyRobot .host = some 1 ∧ (2 : Fin 3) ≠ 0 ∧ (2 : Fin 3) ≠ 1 ∧
      (checked busyRobot).bus.access = none :=
  ⟨⟨rfl, rfl, rfl, rfl, by decide, rfl⟩, ⟨rfl, rfl, rfl, rfl, by decide, rfl⟩, by unfold LawOne; decide, rfl, rfl, rfl,
    by decide, by decide, rfl⟩
/-- R107, R112: with LINK as the third bank the pending hand-over supersedes the bank just checked: 0 becomes HOST again,
1 CHECK with both masks; the HANDOVER word shows PENDED and CHECKING. -/
theorem test_pending_handover :
    let t := after .checkComplete
      (checked { busyRobot with out := #v[.check, .host, .link], masks := #v[2, 0, 0], result := .pended, maskByte := 1 })
    t.robots[1].out = #v[.host, .check, .link] ∧ t.robots[1].masks[1] = 3 ∧ t.robots[1].superseded = 1 ∧
      t.notice.status[1] = 0x2801 := by decide
theorem witness_CheckCompletesIntoReady_held :
    let x : Access := ⟨false, 0x103, .both, 0, .window false 1 0x120 4 3 true, true, true⟩
    (reading x (checked busyRobot)).bus.access = some x ∧ x.held = true ∧ x.write = false ∧
      outBank busyRobot .host = some 1 ∧
      ∀ g, agentWaiting (reading x (checked busyRobot)) g = true → waitOf (reading x (checked busyRobot)).bus.waits g < 4 :=
  ⟨rfl, rfl, rfl, rfl, fun g h => by cases g <;> simp [agentWaiting] at h <;> decide⟩
theorem witness_CheckCompletesIntoReady_heldWrite :
    let x : Access := ⟨true, 0x103, .upper, 0, .window false 1 0x120 4 3 true, true, true⟩
    (reading x (checked busyRobot)).bus.access = some x ∧ x.held = true ∧ x.write = true ∧
      effectiveLevel (reading x (checked busyRobot)) = .none ∧ effectiveLevel (granted .adjust) = .adjust ∧
      base.sram.wf = true ∧ (written.first = none) := by decide

/-- Other accesses in flight: one that waits for its slot, and one held on the window of another robot. -/
theorem witness_CheckCompletesIntoReady_other :
    let x : Access := ⟨true, 0x2000, .both, 5, .pass, false, true⟩
    let y : Access := ⟨true, 0x202, .both, 5, .window false 2 0x220 3 2 false, true, true⟩
    CheckWritten (reading x (checked busyRobot)) cfg written robotA 0 ∧ heldOn (reading x (checked busyRobot)) 1 = none ∧
      heldOn (reading y (checked busyRobot)) 1 = none ∧ heldOn (reading y (checked busyRobot)) 2 = some y :=
  ⟨⟨rfl, rfl, rfl, rfl, by decide, rfl⟩, rfl, rfl, rfl⟩

/-- R112: a waiting access goes on waiting through a check's end, which READY, the queue and the count show. -/
theorem test_check_ends_beside_access :
    let x : Access := ⟨true, 0x2000, .both, 5, .pass, false, true⟩
    let t := after .checkComplete (reading x (checked { busyRobot with pendingMask := none }))
    t.bus.access = some x ∧ t.robots[1].out = #v[.ready, .host, .free] ∧ t.robots[1].checks = 1 ∧ t.engine = ⟨[], none⟩ ∧
      t.notice.status[1] = 0 := by decide

/-- R110, R111: the held write of a recipe word is refused with no grant, and stored at the HOST bank with ADJUST. -/
theorem test_held_write :
    let x : Access := ⟨true, 0x103, .upper, 0x0900, .window false 1 0x120 4 3 true, true, true⟩
    let g := { granted .adjust with engine := ⟨[1], some written⟩ }
    (after .checkComplete (reading x (checked busyRobot))).bus.refusals = 1 ∧
      (after .checkComplete (reading x (withRobot busyRobot g))).sram.readByte (2 * (0x120 + 4 + 3) + 1) = 9 := by decide

/-! #### Cycles and answers -/

def aFrame : TxFrame := ⟨1, 5, [2, 3], 1, 0x120, 0⟩
theorem witness_FramesAreSent :
    let s := { base with field := { base.field with sendList := [aFrame] } }
    let u := { base with field := { base.field with sending := some ⟨aFrame, []⟩ } }
    s.field.sending = none ∧ s.field.sendList = [aFrame] ∧ u.field.sending = some ⟨aFrame, []⟩ ∧
      aFrame.len ≤ [].length (α := Word) := by decide

theorem witness_FramesAreSent_ended :
    let s := cycleDue { base with field := { base.field with sending := some ⟨aFrame, [9]⟩ } }
    s.cfg = some cfg ∧ s.time.nextCycle = some 5000000000 ∧ reached 5000000000 s.time.now = true ∧
      s.field.sending = some ⟨aFrame, [9]⟩ ∧ aFrame.head ≠ [] ∧ ∀ f ∈ s.field.sendList, f.robot ≠ aFrame.robot := by decide

/-- R191: a frame of 59 bytes is padded to 60 before its check, one of 60 is not. -/
theorem test_padding :
    padded (List.replicate 59 7) = List.replicate 59 7 ++ [0] ∧ padded (List.replicate 60 7) = List.replicate 60 7 ∧
      padFrame (List.replicate 59 7) = padded (List.replicate 59 7) := by decide

/-- An ANSWER body of robot 1: cycle 5, READY, no fill report, one input word. -/
def answerBody : List Byte := [1, 0, 5, 0, 0, 0, 0, 0, 0, 0, 9, 1, 0, 0, 1, 0, 7]
theorem witness_FramesMeetTheAdmissionTests :
    let b := frameOf 1 (2 :: answerBody)
    let s := withFrame .arriving b base
    base.field.receiving = none ∧ s.field.receiving = some (receivingOf .arriving b) ∧
      ¬ (b.length < 16 ∨ be16 b 12 ≠ cfg.ports.tagMarker ∨ byteAt b 15 ≠ 0) ∧ (byteAt b 14).toNat = 1 ∧
      be16 b 16 = cfg.ports.hallType ∧ s.switch.ports[1].quarantined = false ∧ s.switch.ports[1].desired = true ∧
      s.switch.ports[1].role = .robot 1 ∧ byteAt b 18 = 2 ∧ (byteAt b 19).toNat = 1 := by decide
theorem witness_FramesMeetTheAdmissionTests_discarded :
    (frameOf 16 []).length = 18 ∧ 16 ≤ (byteAt (frameOf 16 []) 14).toNat ∧ (List.replicate 15 (0 : Byte)).length < 16 ∧
      be16 ((frameOf 1 []).set 17 0) 16 ≠ cfg.ports.hallType ∧ base.switch.ports[4].desired = false ∧
      byteAt (frameOf 3 [3]) 18 ≠ 4 ∧ byteAt (frameOf 2 [3]) 18 = 3 ∧ byteAt (frameOf 3 [4]) 18 = 4 := by decide
theorem witness_ReceptionEndsByTheCheck :
    let s := withRobot busyRobot (withFrame (.answer 1 1 .started) (frameOf 1 (2 :: answerBody)) base)
    s.field.receiving = some (receivingOf (.answer 1 1 .started) (frameOf 1 (2 :: answerBody))) ∧
      s.robots[1].answer.isSome = true ∧
      (none : Option (BitVec 32)) ≠ some (Config.frameCheck (frameOf 1 (2 :: answerBody))) :=
  ⟨rfl, rfl, nofun⟩

/-- Robot 1 as an ANSWER finds it. -/
def answering (x : AnswerState) (banks : Vector InRole 3) : State :=
  withRobot { Robot.reset with context := .running, lastCycleSent := some 5, lastSend := some 4999000000
                               answerState := x, inp := banks }
    (withFrame (.answer 1 1 .arriving) (frameOf 1 (2 :: answerBody)) base)
theorem witness_AnswerStartJudges :
    let s := answering .due #v[.hostIn, .free, .free]
    s.field.receiving = some (receivingOf (.answer 1 1 .arriving) (frameOf 1 (2 :: answerBody))) ∧
      robotCfg s 1 = some robotA ∧ AnswerFormed answerBody ∧ s.robots[1].context ≠ .offline ∧
      s.robots[1].lastCycleSent = some (be16 answerBody 1) ∧ inBank s.robots[1] .free = some 1 ∧
      inBank s.robots[1] .filling = none ∧ s.robots[1].lastSend = some 4999000000 := by unfold AnswerFormed; decide
theorem witness_AnswerStartJudges_others :
    ¬ AnswerFormed (answerBody.take 14) ∧ ¬ AnswerFormed (answerBody.set 11 3) ∧ ¬ AnswerFormed (answerBody.set 12 1) ∧
      (answering .answered #v[.hostIn, .free, .free]).robots[1].answerState = .answered ∧
      inBank (answering .failed #v[.hostIn, .fresh, .filling]).robots[1] .free = none ∧
      base.robots[1].context = .offline := by unfold AnswerFormed; decide
def wholeAnswer : Answer :=
  { bank := 2, cycle := 5, sample := 9, status := .ready, fills := [], left := [], next := 2, short := true,
    long := false, ended := true, newer := false }

/-- R37, R123, R134: robot 1's third missed answer in a row makes it LOST: its queue is emptied, and 11 FILL_UNKNOWN. -/
def missing : State :=
  let s := withRobot { busyRobot with missedRun := 2 } (withFrame (.answer 1 1 .started) [1] base)
  { s with track := { s.track with queues := s.track.queues.set 1 [⟨11, false⟩, ⟨9, false⟩] } }
theorem witness_Emptied : Numbered missing := by
  refine ⟨⟨fun p h => ?_, fun c h => ?_, fun c h => ?_⟩, by show 3 < 4294967296; decide⟩
  · match p with
    | 0 | 1 => rfl
    | n + 2 => exact absurd h (Nat.not_lt.mpr (Nat.le_add_left 3 n))
  · cases h; rfl
  · cases h; rfl
theorem witness_UnsentAreLost_none : unsent (cycleDue base) = [] := rfl
theorem witness_ReceptionEndsByTheCheck_lost :
    missing.field.receiving = some (receivingOf (.answer 1 1 .started) [1]) ∧
      missing.robots[1].answer = busyRobot.answer ∧ busyRobot.answer.isSome = true ∧
      robotA.missedLimit ≤ (satInc missing.robots[1].missedRun).toNat ∧ missing.robots[1].context = .running := by decide
theorem test_lost :
    let t := after (.frameReceptionEnd none) missing
    t.robots[1].context = .lost ∧ logged t = [[eventCode .robotState, 1, 2, 4]] ∧
      t.notice.flags.getLsbD flagRobotFault = true ∧ (recordAt 1 t).map (·.fillUnknown) = some true ∧
      t.track.fillUnknowns = 1 := by decide
/-- R123, R132: an answer of a LOST robot that reports FAULT: ROBOT_STATE, ROBOT_REPORT and ROBOT_FAULT. -/
theorem test_answer_reports :
    let b := { busyRobot with context := .lost, answer := some { wholeAnswer with status := .fault } }
    let t := after (.answerComplete 1) (withRobot b base)
    logged t = [[eventCode .robotState, 1, 4, 2], [eventCode .robotReport, 1, 0, 2]] ∧
      t.notice.flags.getLsbD flagRobotFault = true ∧ t.robots[1].context = .running := by decide
theorem witness_AnswerCompletes :
    let b := { busyRobot with answer := some wholeAnswer }
    (withRobot b base).robots[1].answer = some wholeAnswer ∧ inBank b .fresh = some 0 ∧
      inBank { b with inp := #v[.hostIn, .free, .filling] } .fresh = none := by decide
/-- A ring whose last record is robot 1's, with robot 1's station at position 2, and reports of it and of others. -/
def reporting (x : Record) : State :=
  { base with cfg := some { cfg with robots := cfg.robots.set 1 (some { robotA with station := 2 }) }
              track := { base.track with ring := [recordOf 12, { recordOf 11 with robot := some 1 }, x] } }
theorem witness_FillTaken :
    let s := reporting { recordOf 10 with robot := some 1 }
    positionOf 10 s = some 2 ∧ recordAt 2 s = some { recordOf 10 with robot := some 1 } ∧
      ((2 : Nat) ≤ 2 ∧ 2 < 2 + cfg.track.fillWindow) ∧ positionOf 13 s = none ∧ positionOf 12 s = some 0 ∧
      recordAt 0 s = some (recordOf 12) ∧ (recordOf 12).robot ≠ some 1 ∧
      recordAt 1 s = some { recordOf 11 with robot := some 1 } ∧ ¬ ((2 : Nat) ≤ 1) := by decide
theorem witness_TakeMovesTheFreshBank :
    let s := withRobot busyRobot base
    Serving s cfg ∧ cfg.robots[1] = some robotA ∧ inBank s.robots[1] .fresh = some 0 ∧
      inBank s.robots[1] .hostIn = some 1 ∧ inBank base.robots[1] .fresh = none ∧ cfg.robots[7] = none :=
  ⟨⟨rfl, rfl, rfl, rfl⟩, rfl, rfl, rfl, rfl, rfl⟩

/-! #### Lines, grants and the switch -/

theorem witness_LinesAreDebounced :
    base.lines.line[2].pin ≠ true ∧ base.lines.line[2].record = some cfg.lines[2] ∧
      isInputFn cfg.lines[2].fn = true ∧ cfg.lines[2].fn ≠ .keyA ∧ cfg.lines[2].fn ≠ .keyB ∧
      cfg.lines[2].debounceUs ≠ 0 ∧ quietFn cfg.lines[2].fn = true ∧ base.lines.line[2].pin = false := by decide
theorem witness_LinesAreDebounced_others :
    isInputFn cfg.lines[5].fn = false ∧ cfg.lines[0].debounceUs = 0 ∧ cfg.lines[3].fn = .keyA ∧
      State.reset.lines.line[0].record = none ∧
      due (some 5000000000) base.time.now = true := by decide
theorem witness_LinesAreDebounced_encoder :
    let s := { base with lines := { base.lines with
      line := (base.lines.line.set 0 { base.lines.line[0] with candidate := true, debounceEnd := some 5000000000 }).set 1
        { base.lines.line[1] with candidate := true, debounceEnd := some 5000000000 } } }
    isEncoderFn cfg.lines[0].fn = true ∧ base.lines.line[0].accepted ≠ true ∧
      sampledLine base .encoderB = some 1 ∧ base.lines.line[1].debounceEnd ≠ some 5000000000 ∧
      sampledLine s .encoderB = some 1 ∧ s.lines.line[1].debounceEnd = s.lines.line[0].debounceEnd ∧
      due s.lines.line[0].debounceEnd s.time.now = true ∧ s.lines.line[0].accepted ≠ s.lines.line[0].candidate := by decide

/-- With an EJECT_CONFIRM line and a firing that awaits its confirmation. -/
def confirming : State :=
  { base with cfg := some cfgConfirm
              lines := { base.lines with
                line := base.lines.line.set 10
                  { lineState cfgConfirm.lines[10] with candidate := true, debounceEnd := some 5000000000 } }
              reject := { base.reject with list := [⟨10, 4999999999, some 5000000001, false⟩] } }
theorem witness_LinesAreDebounced_confirm :
    confirming.lines.line[10].record = some cfgConfirm.lines[10] ∧ cfgConfirm.lines[10].fn = .ejectConfirm ∧
      due confirming.lines.line[10].debounceEnd confirming.time.now = true ∧
      confirming.lines.line[10].candidate = true ∧ confirming.lines.line[10].accepted = false ∧
      (confirming.reject.list.filter fun e => e.deadline.isSome && reached e.fire confirming.time.now) ≠ [] := by decide

/-- R71: the confirm edge confirms the firing. -/
theorem test_confirm_edge : (after (.debounceEnd 10) confirming).reject.confirmed = 1 := by decide
theorem witness_GrantOpenSetsTheGrant :
    Serving (granted .maintain) cfg ∧ keyLevel (granted .maintain) = .maintain ∧ keyLevel base = .none ∧
      (granted .maintain).reject.policy ≠ .bypass :=
  ⟨⟨rfl, rfl, rfl, rfl⟩, rfl, rfl, by decide⟩
theorem witness_GrantsClose :
    let s := { granted .maintain with grant := { (granted .maintain).grant with expiry := some 5000000000 } }
    Serving s cfg ∧ s.grant.isOpen = true ∧ due s.grant.expiry s.time.now = true ∧ base.grant.isOpen = false ∧
      s.reject.policy ≠ .bypass :=
  ⟨⟨rfl, rfl, rfl, rfl⟩, rfl, rfl, rfl, by decide⟩
theorem witness_KeyPositionsSettle_change :
    sampledLine base .keyA = some 3 ∧ sampledLine base .keyB = some 4 ∧
      base.lines.line[4].record = some cfg.lines[4] ∧ base.lines.line[4].pin ≠ true ∧
      base.lines.line[4].accepted ≠ xor true cfg.lines[4].activeLow := by decide

/-- A grant at a level with the key settled at MAINTAIN and a candidate pair whose debounce ends now. -/
def settling (v : Level) (a b : Bool) : State :=
  { granted v with grant := { (granted v).grant with candA := a, candB := b, debounceEnd := some 5000000000 } }
theorem witness_KeyPositionsSettle :
    due (settling .maintain true true).grant.debounceEnd base.time.now = true ∧
      (true ≠ (settling .maintain true true).grant.settledA) ∧ (settling .maintain true true).grant.isOpen = true ∧
      pairLevel true true = .none ∧ pairLevel true false = .adjust ∧
      levelCode .adjust < levelCode (settling .maintain true false).grant.granted ∧
      levelCode (settling .view true false).grant.granted ≤ levelCode .adjust ∧
      (false = (settling .view false true).grant.settledA ∧ true = (settling .view false true).grant.settledB) ∧
      base.grant.isOpen = false := by decide

/-- R64, R140, R145, R147: both contacts active under BYPASS: KEY_INVALID from MAINTAIN, GRANT_CHANGE with cause KEY, and
POLICY_CHANGE with cause GRANT. -/
theorem test_key_invalid_ends_bypass :
    let s := settling .maintain true true
    let t := after .keyDebounceEnd { s with reject := { s.reject with policy := .bypass } }
    logged t = [[eventCode .keyInvalid, 0, 3, 0], [eventCode .grantChange, 0, 0x0300, 0x0200],
      [eventCode .policyChange, 0, 0x0200, 2]] ∧ t.grant.isOpen = false ∧ t.grant.keyActions = 1 := by decide
theorem witness_TheLampBlinks :
    let s := { granted .view with
      grant := { (granted .view).grant with lamp := .blinking, blinkStart := some 5000000000 }
      lines := { base.lines with toggleAt := some 5000000000 } }
    ({ s.grant with lamp := .on }.lamp ≠ .blinking) ∧ (∀ x : Lamp, x = .on ∨ x = .off → s.grant.lamp ≠ x) ∧
      base.grant.lamp ≠ .blinking ∧ s.grant.lamp = .blinking ∧
      s.lines.toggleAt = some 5000000000 ∧ reached 5000000000 s.time.now = true ∧ s.grant.isOpen = true ∧
      due s.grant.blinkStart s.time.now = true :=
  ⟨by decide, fun x h => by rcases h with h | h <;> rw [h] <;> decide, by decide, rfl, rfl, by decide, rfl, by decide⟩

/-- Robot 1 in a context behind port 1 with a link and a known admin state, a frame in the send list, one in transmission,
an answer in reception and two announcements, of which 11 is in the ring. -/
def following (k : Context) (link : Link) (x : Known) : State :=
  let s := withRobot { busyRobot with context := k } (withFrame (.answer 1 1 .started) [1] base)
  { s with
    track := { s.track with queues := s.track.queues.set 1 [⟨11, false⟩, ⟨9, false⟩] }
    field := { s.field with sendList := [aFrame], sending := some ⟨aFrame, [9]⟩, deposits := [1] }
    switch := { s.switch with ports := s.switch.ports.set 1 { s.switch.ports[1] with link := link, known := x } } }

/-- What of it stands in a state: the context's code, the changes, the frames waiting, the deposits and the announcements;
then the events. -/
def followed (t : State) : List (List Nat) :=
  [contextCode t.robots[1].context, t.robots[1].ctxChanges.toNat, t.field.sendList.length, t.field.deposits.length,
    t.track.queues[1].length] :: logged t

theorem witness_PortRequestsSetThePort :
    let s := following .running .up .enabled
    let u := following .offline .down .enabled
    Serving (granted .adjust) cfg ∧ Serving s cfg ∧ atLeast (effectiveLevel (granted .adjust)) .adjust = true ∧
      atLeast (effectiveLevel (granted .view)) .adjust = false ∧ followerOf cfg s.switch.ports[1] = some 1 ∧
      followerOf cfg s.switch.ports[2] = none ∧ usable s.switch.ports[1] = true ∧
      s.switch.ports[1].desired = true ∧ wants false { s.switch.ports[1] with hostDisabled := true } = false ∧
      u.robots[1].context = .offline ∧ u.switch.ports[1].link ≠ .up :=
  ⟨⟨rfl, rfl, rfl, rfl⟩, ⟨rfl, rfl, rfl, rfl⟩, by decide, by decide, by decide, by decide, by decide, by decide, by decide,
    by decide, by decide⟩

/-- R122, R123, R37: DISABLE of its port takes robot 1 OFFLINE, its frames, its answer and its announcements given up. -/
theorem test_disable_takes_the_robot :
    let t := after (.portDisable 1) (following .running .up .enabled)
    followed t = [[0, 1, 0, 0, 0], [eventCode .robotState, 1, 2, 0]] ∧ t.field.sending = none ∧
      (t.robots[1].answer = none ∧ t.robots[1].answerState = .none ∧ t.robots[1].inp = #v[.fresh, .hostIn, .free]) ∧
      t.field.receiving = some (receivingOf (.answer 1 1 .abandoned) [1]) ∧ t.track.fillUnknowns = 1 ∧
      t.robots[1].txDropped = 0 := by decide

/-- R122: an ENABLE leaves an OFFLINE robot as it is while the port's link is DOWN. -/
theorem test_enable_waits_for_the_link :
    let s := following .offline .down .enabled
    let x := { s.switch.ports[1] with desired := false, hostDisabled := true }
    let t := after (.portEnable 1) { s with switch := { s.switch with ports := s.switch.ports.set 1 x } }
    t.robots[1].context = .offline ∧ t.switch.ports[1].desired = true := by decide

/-- A command of port 2 outstanding. -/
def outstanding (a : CmdAction) (d : Option Time) : State :=
  { base with switch := { base.switch with outstanding := some ⟨⟨2, a⟩, 40, d⟩ } }
theorem witness_SwitchCommandsRun :
    let s := { base with switch := { base.switch with queue := [⟨2, .disable⟩] } }
    let f := { base with switch := { base.switch with
      ports := base.switch.ports.set 5 { Port.reset with flapEnd := some 5000000000 } } }
    (s.switch.outstanding = none ∧ s.switch.queue = [⟨2, .disable⟩] ∧ isLive s = true) ∧
      (outstanding .ask none).switch.outstanding = some ⟨⟨2, .ask⟩, 40, none⟩ ∧
      due (some 5000000000) (outstanding .enable (some 5000000000)).time.now = true ∧
      followerOf cfg base.switch.ports[2] = none ∧ followerOf cfg base.switch.ports[1] = some 1 ∧ due f.switch.ports[5].flapEnd f.time.now = true := by decide

/-- R156, R122, R123: a timeout of a command for port 1: PORT_COMMAND_FAILED, then ROBOT_STATE. -/
theorem test_timeout_takes_the_robot :
    let s := following .starting .up .enabled
    let t := after .replyTimeout
      { s with switch := { s.switch with outstanding := some ⟨⟨1, .enable⟩, 40, some 5000000000⟩ } }
    followed t = [[0, 1, 0, 0, 2], [eventCode .portCommandFailed, 1, 1, 1], [eventCode .robotState, 1, 1, 0]] ∧
      t.switch.queue = [⟨1, .ask⟩] := by decide
theorem witness_PortStatesAreTaken :
    let m := portMsg 40 2 0x83
    isLive base = true ∧ base.cfg = some cfg ∧ m.valid = true ∧ m.isReply = true ∧ m.b2.toNat = 2 ∧
      (outstanding .ask none).switch.outstanding = some ⟨⟨2, .ask⟩, m.b1, none⟩ ∧
      (portMsg 0 15 0x00).valid = true ∧ (portMsg 0 15 0x00).isReply = false ∧
      (⟨3, 0, 9, 0, 0⟩ : PortMsg).valid = false ∧ base.switch.ports[2].desired = true ∧
      (outstanding .disable none).switch.queue = [] := by decide
theorem witness_PortStatesAreTaken_stray :
    let m := portMsg 41 2 0x83
    m.valid = true ∧ m.isReply = true ∧ m.b2.toNat = 2 ∧ base.switch.outstanding = none ∧
      (outstanding .ask none).switch.outstanding = some ⟨⟨2, .ask⟩, 40, none⟩ ∧ m.b1 ≠ 40 := by decide

/-- Port 2 UP, desired and known ENABLED, with a flap count and a window end. -/
def flapping (n : Nat) (e : Option Time) : State :=
  { base with switch := { base.switch with
      ports := base.switch.ports.set 2 { base.switch.ports[2] with
        link := .up, known := .enabled, flaps := n, flapEnd := e } } }
theorem witness_LinkTaken :
    let x := fun n e => (flapping n e).switch.ports[2]
    let s := { flapping 1 none with time := { base.time with advance := 8 } }
    lossCounts (x 1 none) false = true ∧ lossCounts (x 1 none) true = false ∧ windowPast s (x 1 none) = true ∧
      windowPast s (x 1 (some 5000000000)) = false ∧ windowPast s (x 1 (some 4999999992)) = true ∧
      lossQuarantines s cfg (x 1 (some 5000000001)) false = false ∧
      lossQuarantines s cfg (x 2 (some 5000000001)) false = true ∧ (x 1 none).link ≠ linkOf false ∧
      followerOf cfg (x 1 none) = none := by decide
theorem witness_PortReported :
    let s := following .offline .down .enabled
    let y := s.switch.ports[1]
    let up := { y with link := .up }
    followerOf cfg y = some 1 ∧ isLive s = true ∧ contextBy .offline up = .starting ∧ contextBy .running y = .offline ∧
      contextBy .running up = .running ∧
      contextsBy .offline (reportRecords y { up with known := .disabled }) = [.offline, .starting, .offline] ∧
      contextsBy .running (reportRecords y y) = [.running] := by decide

/-- R158, R159: the third loss in a window quarantines port 2: PORT_LINK and PORT_QUARANTINED, and its DISABLE queued. -/
theorem test_quarantine :
    let t := after (.portStateNotice (portMsg 0 2 0x01)) (flapping 2 (some 5000000001))
    t.switch.ports[2].quarantined = true ∧ t.switch.queue = [⟨2, .disable⟩] ∧ t.notice.writeIx = 2 := by decide

/-- R122, R123, R158: link UP at the port of OFFLINE robot 1 brings STARTING; UP with DISABLED, STARTING and then OFFLINE. -/
theorem test_link_starts_the_robot :
    followed (after (.portStateNotice (portMsg 0 1 0x03)) (following .offline .down .enabled)) =
        [[1, 1, 1, 1, 2], [eventCode .portLink, 1, 1, 2], [eventCode .robotState, 1, 0, 1]] ∧
      followed (after (.portStateNotice (portMsg 0 1 0x02)) (following .offline .down .enabled)) =
        [[0, 2, 0, 0, 2], [eventCode .portLink, 1, 1, 2], [eventCode .robotState, 1, 0, 1],
          [eventCode .robotState, 1, 1, 0], [eventCode .portOverridden, 1, 0, 1]] := by decide

/-- R122, R123: link DOWN at the port of RUNNING robot 1 brings OFFLINE; a report that changes nothing, nothing. -/
theorem test_link_stops_the_robot :
    followed (after (.portStateNotice (portMsg 0 1 0x01)) (following .running .up .enabled)) =
        [[0, 1, 0, 0, 0], [eventCode .portLink, 1, 2, 1], [eventCode .robotState, 1, 2, 0]] ∧
      followed (after (.portStateNotice (portMsg 0 1 0x03)) (following .running .up .enabled)) =
        [[2, 0, 1, 1, 2]] := by decide

/-! #### Configuration images -/

/-- The sections of a configuration image with one robot and one camera (R183; 13.5). -/
def sections : List (List Nat) :=
  let words2 := fun n : Nat => [n % 65536, n / 65536]
  [[8, 0x1000, 3, 0x100, 0x1010, 9, 0x102, 0x1020, 2, 0x101, 0x1030, 6, 0x103, 0x1200, 64, 4, 0x1300, 64, 5,
      0x1400, 16, 6, 0x2000, 4, 0x17],
    words2 0x7E000,
    [77] ++ words2 100 ++ words2 1000000 ++ words2 2000 ++ [5, 8, 4, 1000, 250],
    [24] ++ words2 1024 ++ [0, 500] ++ words2 20000 ++ words2 200000 ++ [2, 9, 2],
    [1, 1],
    [2, 48, 32, 32, 100, 200, 3, 4, 0, 4],
    [2, 4, 0, 0, 0, 2, 500],
    [12, 128, 500, 30, 40],
    [0x9100, 0x88B5, 10, 3, 14, 14, 14, 9, 14, 1, 14, 14, 12, 13, 14, 14, 14, 14, 14, 14],
    [1, 0, 0, 0, 0, 2, 0, 0, 0, 0, 3, 0, 0, 0, 0, 5, 0, 0, 0, 0, 6, 0, 0, 0, 0, 9, 0, 0, 0, 0, 12, 0, 0, 0, 0,
      13, 0, 0, 0, 0, 14, 0, 0, 0, 900, 16, 0, 0, 0, 0] ++ List.replicate 30 0,
    List.replicate 32 7,
    List.replicate 1024 0]

/-- The directory: each section's offset and length. -/
def directory : Nat → List (List Nat) → List Nat
  | _, [] => []
  | at0, s :: ss => at0 :: s.length :: directory (at0 + s.length) ss

/-- The image: length, generation, check sum, directory and sections, its words summing to 0. -/
def image : List Word :=
  let rest := directory 27 sections ++ sections.flatten
  let n := rest.length + 3
  (n :: 7 :: (65536 - (n + 7 + rest.sum) % 65536) % 65536 :: rest).map (BitVec.ofNat 16)

/-- R184: the image passes its ten checks, and one word changed fails the sum. -/
theorem test_image_accepted : checkImage image = none := by decide +kernel
theorem test_image_sum : (checkImage (image.set 40 9)).map (·.code) = some 3 := by decide +kernel

/-- No words: check 2 fails, and none before it. -/
theorem witness_ImageJudged_length :
    CheckFails [] (settingsOf []) 2 0 ∧
      ∀ m j : Nat, m < 2 ∨ (m = 2 ∧ j < 0) → ¬ CheckFails [] (settingsOf []) m j := by
  refine ⟨.inl ⟨rfl, rfl, by decide⟩, fun m j h k => ?_⟩
  unfold CheckFails at k; omega

/-- The image fails none of the checks. -/
theorem witness_ImageJudged_accepted (n k : Nat) : ¬ CheckFails image (settingsOf image) n k := by
  have hr : (settingsOf image).regions.length = 8 := by decide +kernel
  have none_past : ∀ i, 8 ≤ i → (settingsOf image).regions[i]? = none := fun i h => by simp [hr, h]
  rintro (⟨-, -, h⟩ | ⟨-, -, h⟩ | ⟨-, -, h⟩ | ⟨-, h⟩ | ⟨-, h⟩ | ⟨-, -, h⟩ | ⟨-, -, h⟩ | ⟨-, h⟩ | ⟨-, h⟩)
  · exact absurd h (by decide +kernel)
  · exact absurd h (by decide +kernel)
  · exact absurd h (by unfold SectionFails share; dsimp only; decide +kernel)
  · by_cases hk : k < 8
    · revert h; revert k; unfold RegionFails share; decide +kernel
    · simp [RegionFails, none_past k (by omega)] at h
  · rcases h with ⟨-, h⟩ | ⟨h0, h⟩
    · exact absurd h (by decide +kernel)
    · by_cases hk : k < 9
      · revert h h0; revert k; unfold share; decide +kernel
      · simp [none_past (k - 1) (by omega)] at h
  · exact h (by unfold RangesHold; dsimp only; refine ⟨?_, ?_, ?_, ?_, ?_, ?_, ?_, ?_, ?_⟩ <;> decide +kernel)
  · exact absurd h (by unfold PlacesFail; dsimp only; decide +kernel)
  · by_cases hk : k < 32
    · revert h; revert k; unfold UniqueFails; dsimp only; decide +kernel
    · unfold UniqueFails at h; omega
  · rcases h with ⟨r, rfl, h | h⟩ | ⟨r, rfl, h | h⟩ | ⟨-, h⟩
    · revert h; revert r; unfold oneOf; dsimp only; decide +kernel
    · revert h; revert r; decide +kernel
    · revert h; revert r; decide +kernel
    · revert h; revert r; decide +kernel
    · exact h (by unfold oneOf; dsimp only; decide +kernel)
theorem witness_ImageChecksEnd_faults :
    State.reset.bus.device = .loading ∧ State.reset.loader.copying = false ∧
      checkImage (storedImage State.reset) = some ⟨2, 0⟩ ∧ State.reset.cfg = none := by decide

/-- The image in the settings memory, and staged with RELOADING entered from ACTIVE. -/
def loading (ws : List Word) : State := { State.reset with settingsMem := Memory.writeWords [] 0 ws }
def reloading (ws : List Word) : State :=
  { base with bus := { base.bus with device := .reloading }, loader := { Loader.reset with image := ws } }
def reloadingAnew (ws : List Word) : State := { reloading ws with cfg := none }
/-- An image written to the settings memory is the image it holds. -/
theorem storedImage_loading (ws tl : List Word) (w : Word) (e : ws = w :: tl) (hw : w.toNat = ws.length)
    (hb : badLength ws.length = false) : storedImage (loading ws) = ws := by
  have h := readWords_writeWords ws [] 0 rfl
  have h0 : (loading ws).settingsMem.readWord 0 = w := by
    subst e; exact (List.cons.inj h).1
  unfold storedImage
  rw [h0, hw, hb]
  exact h
theorem image_head : image = (image.headD 0) :: image.tail := by decide +kernel
theorem image_length : (image.headD 0).toNat = image.length ∧ badLength image.length = false := by decide +kernel
theorem witness_ImageChecksEnd_accepted :
    (loading image).bus.device = .loading ∧ (loading image).loader.copying = false ∧
      checkImage (storedImage (loading image)) = none ∧ (loading image).cfg = none :=
  ⟨rfl, rfl, (storedImage_loading _ _ _ image_head image_length.1 image_length.2).symm ▸ test_image_accepted, rfl⟩
theorem witness_ImageChecksEnd_reloading (ws : List Word) :
    (reloading ws).bus.device = .reloading ∧ (reloading ws).cfg = some cfg ∧ (reloading ws).loader.copying = false ∧
      (reloading ws).loader.reading = false ∧ (reloading ws).loader.image = ws ∧
      (reloading ws).track.edgeNoted = false ∧ (reloading ws).bus.access = none := ⟨rfl, rfl, rfl, rfl, rfl, rfl, rfl⟩
/-- R44: an edge was noted, and the staged image fails check 2. -/
def edgeNoted : State := { reloading [] with track := { base.track with edgeNoted := true } }
theorem witness_ImageChecksEnd_edgeNoted :
    edgeNoted.bus.device = .reloading ∧ edgeNoted.cfg = some cfg ∧ checkImage edgeNoted.loader.image = some ⟨2, 0⟩ ∧
      edgeNoted.track.edgeNoted = true ∧ recordAt 0 edgeNoted = some (recordOf 12) := by decide
theorem test_uncounted_travel :
    let t := after (.imageCheckEnd true) edgeNoted
    t.track.encoderErrors = base.track.encoderErrors + 1 ∧ (recordAt 0 t).map (·.suspect) = some true ∧
      t.notice.writeIx = 2 := by decide +kernel
/-- A read of robot 1's output window held behind its CHECK bank when a staged image is accepted. -/
theorem witness_ImageChecksEnd_held :
    let x : Access := ⟨false, 0x103, .both, 0, .window false 1 0x120 4 3 true, true, true⟩
    let s := reading x (withRobot busyRobot (reloading image))
    s.bus.access = some x ∧ x.held = true ∧ x.write = false ∧ outBank s.robots[1] .host = some 1 ∧
      checkImage s.loader.image = none ∧ s.cfg = some cfg ∧
      ∀ g, agentWaiting s g = true → waitOf s.bus.waits g < 4 :=
  ⟨rfl, rfl, rfl, rfl, test_image_accepted, rfl, fun g h => by cases g <;> simp [agentWaiting] at h <;> decide⟩
/-- R44, R60, R84, R139, R152, R166, R174: a RELOAD that finds a grant open with the key pair not shown by its lines, the
policy REJECT_ALL and robot 1 RUNNING: LINE_RESET with cause 2, POLICY_CHANGE and GRANT_CHANGE with their cause RELOAD, and
ROBOT_STATE to OFFLINE. -/
def replacing : State :=
  let s := withRobot busyRobot (reloading image)
  { s with grant := (granted .adjust).grant, reject := { s.reject with policy := .rejectAll }
           cameras := s.cameras.set 1 { Camera.reset with triggers := 7 } }
theorem witness_TakesEffect :
    replacing.bus.access = none ∧ replacing.cfg = some cfg ∧ keyMoves false false replacing.grant = true ∧
      replacing.reject.policy ≠ .normal := by decide
theorem test_reload :
    let t := after (.imageCheckEnd true) replacing
    logged t = [[eventCode .lineReset, 0, 3, 2], [eventCode .policyChange, 0, 0x0100, 3],
        [eventCode .grantChange, 0, 0x0200, 0x0400], [eventCode .robotState, 1, 2, 0]] ∧
      t.cameras[1].triggers = 7 ∧ t.switch.queue.map (·.port) = List.finRange 16 := by decide +kernel
theorem witness_LineMeets :
    let k := lineOf .generalIn 9
    let x := { lineState (lineOf .ejector 0) with deferred := some k }
    let s := { base with reject := { base.reject with pulseEnd := some 5 } }
    x.record = some (lineOf .ejector 0) ∧ x.record ≠ some k ∧ s.reject.pulseEnd.isSome = true ∧
      base.reject.pulseEnd = none := by decide
theorem witness_ImageChecksEnd_fromConfigFault :
    (reloadingAnew image).bus.device = .reloading ∧ (reloadingAnew image).cfg = none ∧
      (reloadingAnew image).loader.copying = false ∧ (reloadingAnew image).loader.reading = false ∧
      checkImage (reloadingAnew image).loader.image = none ∧ checkImage (reloadingAnew []).loader.image = some ⟨2, 0⟩ :=
  ⟨rfl, rfl, rfl, rfl, test_image_accepted, by decide⟩
theorem witness_ActiveIsEntered :
    let l := { Loader.reset with accepted := some cfg, copied := true }
    ({ State.reset with loader := l } : State).loader.accepted = some cfg ∧ l.copied = true ∧ State.reset.cfg = none ∧
      ({ base with loader := l } : State).cfg = some cfg := ⟨rfl, rfl, rfl, rfl⟩
/-- R165, R175: the first entry to ACTIVE: a PORT_SET for every port in order, and starting statuses. -/
theorem witness_ActiveIsEntered_first :
    State.reset.switch.queue = [] ∧ State.reset.grant.isOpen = false ∧ State.reset.lines.line[2].record = none :=
  ⟨rfl, rfl, rfl⟩
theorem test_first_entry :
    let t := after .activeEntry { State.reset with loader := { Loader.reset with accepted := some cfg, copied := true } }
    t.switch.queue.map (·.port) = List.finRange 16 ∧ t.switch.queue.map (·.action) =
        (List.range 16).map (fun p => if p = 1 ∨ p = 2 ∨ p = 3 then CmdAction.enable else .disable) ∧
      t.notice.status[23] = 0x0100 ∧ t.notice.status[17] = 0 ∧ logged t = [] ∧
      t.lines.line[2].record = some cfg.lines[2] := by decide +kernel
theorem witness_StoresEnd :
    let s := { base with bus := { base.bus with storing := true }, loader := { Loader.reset with image := [2, 5] } }
    s.bus.storing = true ∧ s.settingsMem.wf = true ∧ s.loader.image[1]? = some 5 ∧
      storeFaultFits s.loader.image (.writeNoAnswer 2) = true ∧ storeFaultFits s.loader.image (.readNoAnswer 1) = true ∧
      storeFaultFits s.loader.image (.mismatch 1 6) = true := by decide
/-- R189: the write of word 0 that ends the store is not answered: word 0 is 0, word 1 the image's. -/
theorem test_store_failed :
    let s := { base with bus := { base.bus with storing := true }, loader := { Loader.reset with image := [2, 5] } }
    let t := after (.storeFailed (.writeNoAnswer 2)) s
    t.settingsMem.readWord 0 = 0 ∧ t.settingsMem.readWord 1 = 5 ∧
      t.writer.queue.head? = some (.event 0 (eventWords .storeFailed 0 5000000000 s.time.state 1 0) 1) := by decide
/-- R139: an answer in deposit is given up at RELOAD: its bank FREE, its answer DUE. -/
theorem test_reload_abandons :
    let t := after .reload (withRobot busyRobot (granted .maintain))
    t.robots[1].inp = #v[.fresh, .hostIn, .free] ∧ t.robots[1].answerState = .due ∧ t.robots[1].answer = none := by decide
theorem witness_ReloadsBegin_answer :
    Serving (withRobot busyRobot (granted .maintain)) cfg ∧ busyRobot.answer.map (·.bank) = some 2 ∧
      effectiveLevel (withRobot busyRobot (granted .maintain)) = .maintain ∧
      (withFrame (.answer 1 1 .started) [1] (granted .maintain)).field.receiving =
        some (receivingOf (.answer 1 1 .started) [1]) := ⟨⟨rfl, rfl, rfl, rfl⟩, rfl, rfl, rfl⟩
theorem witness_ReloadsBegin :
    let f := { base with bus := { base.bus with device := .configFault }, cfg := none }
    Serving (granted .maintain) cfg ∧ (granted .maintain).bus.storing = false ∧
      effectiveLevel (granted .maintain) = .maintain ∧ effectiveLevel (granted .adjust) ≠ .maintain ∧
      f.bus.device = .configFault ∧ f.bus.access = none ∧ arbiter true f = some .processor :=
  ⟨⟨rfl, rfl, rfl, rfl⟩, rfl, rfl, by decide, rfl, rfl, rfl⟩

end Sys2Proof.Tests
end

section
/-! Proofs about machine time (01): the clock tick. Local time is read as one integer, the whole part and the fraction
in units of 2^-32 ns, on which a tick is one addition modulo 2^96. -/
namespace Sys2Proof.MachineTime

open Sys2Proof Sys2Proof.Machine Sys2Proof.Claims

/-- Local time in units of 2^-32 ns, the whole part above the fraction. -/
def localUnits (t : TimeUnit) : Int := t.now.toNat * 2 ^ 32 + t.frac.toNat

/-- The whole part and the fraction side by side, as R1 adds to them together, are `localUnits`. -/
theorem now_append_frac (t : TimeUnit) : (t.now ++ t.frac : BitVec 96) = BitVec.ofInt 96 (localUnits t) := by
  apply BitVec.eq_of_toNat_eq
  have hnow := t.now.isLt
  have hfrac := t.frac.isLt
  rw [BitVec.toNat_append, BitVec.toNat_ofInt, Nat.shiftLeft_eq, Nat.mul_comm, ← Nat.two_pow_add_eq_or_of_lt hfrac]
  unfold localUnits
  omega

/-- Nothing of the sum of the fraction and c is lost: |c| is below 2^32, so one carry or one borrow is enough. -/
theorem fracSum_eq_carryOf_add_frac_tick (t : TimeUnit) (hcorr : t.corr.natAbs ≤ 6871947) :
    fracSum t = carryOf (fracSum t) * 2 ^ 32 + (tick t).frac.toNat := by
  have hold := t.frac.isLt
  have hsum : fracSum t = t.frac.toNat + t.corr := rfl
  have hnew : ((tick t).frac.toNat : Int) = fracSum t % 2 ^ 32 := by
    simp only [tick, BitVec.toNat_ofInt]
    omega
  unfold carryOf
  split
  · omega
  · split
    · omega
    · omega

/-- The whole part grows by 8 and the carry or borrow, modulo 2^64. -/
theorem now_tick_emod (t : TimeUnit) :
    ((tick t).now.toNat : Int) = (t.now.toNat + (8 + carryOf (fracSum t))) % 2 ^ 64 := by
  simp only [tick, tickAdvance, BitVec.toNat_add, BitVec.toNat_ofInt]
  omega

/-- Modulo 2^96 a tick adds 8 ns and c to local time. -/
theorem localUnits_tick_emod (t : TimeUnit) (hcorr : t.corr.natAbs ≤ 6871947) :
    localUnits (tick t) % 2 ^ 96 = (localUnits t + (8 * 2 ^ 32 + t.corr)) % 2 ^ 96 := by
  have hnow := now_tick_emod t
  have hfrac := fracSum_eq_carryOf_add_frac_tick t hcorr
  have hsum : fracSum t = t.frac.toNat + t.corr := rfl
  unfold localUnits
  omega

/-- R1 on the 96 bits of local time. -/
theorem now_append_frac_tick (t : TimeUnit) (hcorr : t.corr.natAbs ≤ 6871947) :
    ((tick t).now ++ (tick t).frac : BitVec 96) =
      (t.now ++ t.frac : BitVec 96) + BitVec.ofInt 96 (8 * 2 ^ 32 + t.corr) := by
  rw [now_append_frac, now_append_frac, ← BitVec.ofInt_add]
  apply BitVec.eq_of_toNat_eq
  rw [BitVec.toNat_ofInt, BitVec.toNat_ofInt]
  exact congrArg Int.toNat (localUnits_tick_emod t hcorr)

/-- A tick leaves every field of the Time Unit but local time and the advance. -/
theorem tick_frame (t : TimeUnit) :
    tick t = { t with now := (tick t).now, frac := (tick t).frac, advance := (tick t).advance } := rfl

/-- A state with another Time Unit differs in nothing else. -/
theorem only_time_of_update (x : TimeUnit) (s : State) : Only [.time] s { s with time := x } := by
  refine ⟨rfl, fun p hp => ?_⟩
  cases p
  case time => exact absurd (List.mem_singleton_self _) hp
  all_goals rfl

/-- CLOCK_TICK is one tick of the Time Unit, in every state. -/
theorem exec_clockTick (s : State) : exec .clockTick s = .next { s with time := tick s.time } := rfl

/-- Settles O12: the new fraction and the carry or borrow hold the sum of the fraction and c between them, so the two
parts together grow by 8 ns plus c. -/
theorem clockTickAddsEightPlusCorrection : Obligations.ClockTickAddsEightPlusCorrection := by
  intro s hcorr
  exact ⟨_, exec_clockTick s, now_append_frac_tick s.time hcorr, tick_frame s.time, only_time_of_update _ s⟩

end Sys2Proof.MachineTime
end

section
/-! What an appended event and an answered request leave, in the words the statements share: write-outs asked for, one
event reported, a request word answered. Families that state events or requests can use these. -/
namespace Sys2Proof.Reports

open Sys2Proof Sys2Proof.Machine Sys2Proof.Claims

/-! ### The list of write-outs (R101) -/

theorem asks_of_writer {s t : State} (js : List Job)
    (h : t.writer = { s.writer with queue := s.writer.queue ++ js }) : Asks s t := by
  unfold Asks
  rw [h]
  exact ⟨rfl, js, rfl⟩

theorem asks_of_writer_eq {s t : State} (h : t.writer = s.writer) : Asks s t :=
  asks_of_writer [] (by simp [h])

theorem asks_trans {s u t : State} (hsu : Asks s u) (hut : Asks u t) : Asks s t :=
  ⟨hut.1.trans hsu.1, hsu.2.trans hut.2⟩

theorem asks_ask (m : Mirror) (s : State) : Asks s (ask m s) := by
  by_cases hm : Job.mirror m ∈ s.writer.queue
  · exact asks_of_writer_eq (by simp [ask_writer, hm])
  · exact asks_of_writer [.mirror m] (by simp [ask_writer, hm])

theorem asks_rewriteMirror (m : Mirror) (s : State) : Asks s (rewriteMirror m s) := by
  unfold rewriteMirror
  split
  · exact asks_ask m s
  · exact asks_of_writer_eq rfl

theorem asks_rewriteAll (ms : List Mirror) (s : State) : Asks s (rewriteAll ms s) := by
  induction ms generalizing s with
  | nil => exact asks_of_writer_eq rfl
  | cons m ms ih => exact asks_trans (asks_rewriteMirror m s) (ih (rewriteMirror m s))

theorem asks_settle (s u : State) : Asks u (settle s u) := by
  obtain ⟨ns, h⟩ := settle_writer s u
  exact asks_of_writer _ h

/-- An event asks for its record's write-out at most. -/
theorem asks_append (k : EventKind) (subject d1 d2 : Word) (s : State) : Asks s (append k subject d1 d2 s) := by
  unfold append
  rcases appendAt_cases k subject s.time.now s.time.state d1 d2 s with ⟨-, h⟩ | ⟨-, -, h, -⟩ | ⟨-, -, -, h⟩
  · exact asks_of_writer_eq (by rw [h])
  · exact asks_of_writer_eq h
  · exact asks_of_writer _ h

/-! ### Fields that stand -/

theorem same_trans {s u t : State} {p : Part} (hsu : Part.same s u p) (hut : Part.same u t p) : Part.same s t p := by
  cases p
  all_goals exact Eq.trans hut hsu

theorem only_trans {ps qs : List Part} {s u t : State} (hsu : Only ps s u) (hut : Only qs u t) (hqs : qs ⊆ ps) :
    Only ps s t :=
  ⟨hut.1.trans hsu.1, fun p hp => same_trans (hsu.2 p hp) (hut.2 p fun hq => hp (hqs hq))⟩

theorem only_mono {ps qs : List Part} {s t : State} (h : Only ps s t) (hps : ps ⊆ qs) : Only qs s t :=
  ⟨h.1, fun p hp => h.2 p fun hq => hp (hps hq)⟩

theorem only_granting (g : Requester) (s : State) : Only [.bus] s (granting g s) := by
  refine ⟨rfl, fun p hp => ?_⟩
  cases p
  case bus => exact absurd (List.mem_singleton_self _) hp
  all_goals rfl

theorem only_setStatus (i : Fin 26) (w : Word) (s : State) : Only [.notice] s (setStatus i w s) := by
  refine ⟨rfl, fun p hp => ?_⟩
  cases p
  case notice => exact absurd (List.mem_singleton_self _) hp
  all_goals rfl

theorem only_settle (s u : State) : Only [.writer] u (settle s u) := by
  refine ⟨by simp, fun p hp => ?_⟩
  cases p
  case writer => exact absurd (List.mem_singleton_self _) hp
  all_goals simp [Part.same]

theorem only_setPair (a b : Bool) (s : State) : Only [.track] s (setPair a b s) := by
  refine ⟨rfl, fun p hp => ?_⟩
  cases p
  case track => exact absurd (List.mem_singleton_self _) hp
  all_goals rfl

theorem only_append (k : EventKind) (subject d1 d2 : Word) (s : State) :
    Only [.writer, .notice] s (append k subject d1 d2 s) := by
  refine ⟨by simp, fun p hp => ?_⟩
  cases p
  case writer | notice => simp at hp
  all_goals simp [Part.same]

theorem only_writeSram (a : Nat) (w : Word) (u : State) : Only [.sram] u (writeSram a w u) := by
  refine ⟨rfl, fun p hp => ?_⟩
  cases p
  case sram => exact absurd (List.mem_singleton_self _) hp
  all_goals rfl

/-! ### One event (R180, R182) -/

/-- An event raises no flag but EVENT_DROPPED. -/
theorem raises_nothing_append (k : EventKind) (subject d1 d2 : Word) (s : State) :
    Raises [] s (append k subject d1 d2 s) := by
  intro n hn
  have hbit : (BitVec.ofNat 16 (2 ^ flagEventDropped)).getLsbD n = false := by
    rw [BitVec.getLsbD_ofNat, Nat.testBit_two_pow_of_ne (Ne.symm hn), Bool.and_false]
  rcases append_flags k subject d1 d2 s with h | h
  · rw [h]
    simp
  · rw [h, BitVec.getLsbD_or, hbit]
    simp

theorem logs_append (k : EventKind) (subject d1 d2 : Word) (s : State) :
    Logs k subject d1 d2 s (append k subject d1 d2 s) := by
  unfold Logs LogsAt append
  rcases appendAt_cases k subject s.time.now s.time.state d1 d2 s with
    ⟨hcfg, h⟩ | ⟨hcfg, hfull, -, hnotice⟩ | ⟨hcfg, hfull, hnotice, hwriter⟩
  · rw [if_pos hcfg, h]
    exact ⟨rfl, rfl, rfl⟩
  · rw [if_neg hcfg, if_pos hfull, hnotice]
    refine ⟨rfl, rfl, ?_⟩
    simp [flagEventDropped]
  · rw [if_neg hcfg, if_neg (by simp [hfull]), hnotice, hwriter]
    exact ⟨rfl, rfl, rfl, by simp⟩

theorem noticeKept_append (k : EventKind) (subject d1 d2 : Word) (s : State) :
    NoticeKept s (append k subject d1 d2 s) := by
  unfold NoticeKept NoticeFrame append
  rcases appendAt_cases k subject s.time.now s.time.state d1 d2 s with ⟨-, h⟩ | ⟨-, -, -, h⟩ | ⟨-, -, h, -⟩
  · rw [h]
    exact ⟨⟨rfl, rfl, rfl, rfl⟩, rfl⟩
  · rw [h]
    exact ⟨⟨rfl, rfl, rfl, rfl⟩, rfl⟩
  · rw [h]
    exact ⟨⟨rfl, rfl, rfl, rfl⟩, rfl⟩

theorem status_append (k : EventKind) (subject d1 d2 : Word) (s : State) :
    (append k subject d1 d2 s).notice.status = s.notice.status := (noticeKept_append k subject d1 d2 s).2

/-- What the Notice Unit shows of an operation that reports one event and raises no flag. -/
structure ReportsOne (k : EventKind) (subject d1 d2 : Word) (s t : State) : Prop where
  logs : Logs k subject d1 d2 s t
  raises : Raises [] s t
  frame : NoticeFrame s t

theorem reportsOne_append (k : EventKind) (subject d1 d2 : Word) (s : State) :
    ReportsOne k subject d1 d2 s (append k subject d1 d2 s) where
  logs := logs_append k subject d1 d2 s
  raises := raises_nothing_append k subject d1 d2 s
  frame := (noticeKept_append k subject d1 d2 s).1

/-- Work before the event that leaves the configuration, the time and the Notice Unit alone does not show in the report. -/
theorem ReportsOne.of_before {k : EventKind} {subject d1 d2 : Word} {s u t : State} (h : ReportsOne k subject d1 d2 u t)
    (hcfg : u.cfg = s.cfg) (htime : u.time = s.time) (hnotice : u.notice = s.notice) :
    ReportsOne k subject d1 d2 s t := by
  obtain ⟨hlogs, hraises, hframe⟩ := h
  refine ⟨?_, ?_, ?_⟩
  · unfold Logs LogsAt LogsNothing eventRingFull at hlogs ⊢
    rwa [hcfg, htime, hnotice] at hlogs
  · simpa only [Raises, hnotice] using hraises
  · simpa only [NoticeFrame, hnotice] using hframe

/-- Nor does work after the event that changes of the Notice Unit the statuses only and asks for write-outs. -/
theorem ReportsOne.of_after {k : EventKind} {subject d1 d2 : Word} {s u t : State} (h : ReportsOne k subject d1 d2 s u)
    (hnotice : t.notice = { u.notice with status := t.notice.status }) (hasks : Asks u t) :
    ReportsOne k subject d1 d2 s t := by
  obtain ⟨hlogs, hraises, hframe⟩ := h
  refine ⟨?_, ?_, ?_⟩
  · unfold Logs LogsAt LogsNothing at hlogs ⊢
    rw [hnotice]
    split
    · next hcfg => simpa only [if_pos hcfg] using hlogs
    · next hcfg =>
      rw [if_neg hcfg] at hlogs
      split
      · next hfull => simpa only [if_pos hfull] using hlogs
      · next hfull =>
        rw [if_neg hfull] at hlogs
        obtain ⟨hix, hlost, hflag, hjob⟩ := hlogs
        exact ⟨hix, hlost, hflag, hasks.2.subset hjob⟩
  · unfold Raises
    rw [hnotice]
    exact hraises
  · unfold NoticeFrame
    rw [hnotice]
    exact hframe

/-! ### A request answered (R91, R175) -/

theorem stores_writeSram (a : Nat) (w : Word) {s u : State} (hsram : u.sram = s.sram) :
    Stores a w s (writeSram a w u) := by
  rw [Stores, writeSram_own, hsram]
  refine ⟨rfl, fun b hlow hhigh => ?_⟩
  calc (s.sram.writeWord a w).readByte b
      = (s.sram.writeByte (2 * a) (loByte w)).readByte b := readByte_other _ _ _ _ hhigh
    _ = s.sram.readByte b := readByte_other _ _ _ _ hlow

/-- A request whose owner has acted, in the slot of the processor, and left status `w` for the request word: the word
written and the mirrors asked for, it is answered. -/
theorem answers_settle_writeSram {s u : State} (c : Settings) {i : Fin 26} {w : Word} {ps : List Part}
    (hsram : u.sram = s.sram) (hstatus : u.notice.status = s.notice.status.set i w)
    (hbus : u.bus = (granting .processor s).bus) (hframe : NoticeFrame s u)
    (honly : OnlyAsks (.sram :: .notice :: .bus :: ps) s u) :
    Answers c i w ps s (settle s (writeSram (c.page + 16 + i.val) w u)) := by
  have hwritten := only_trans honly.1 (only_writeSram (c.page + 16 + i.val) w u) (by simp)
  refine ⟨?_, ?_, ?_, ?_, only_trans hwritten (only_settle s _) (by simp), ?_⟩
  · simpa [Stores] using stores_writeSram (c.page + 16 + i.val) w hsram
  · simpa using hstatus
  · simpa using hbus
  · simpa [NoticeFrame] using hframe
  · exact asks_trans honly.2 (asks_settle s (writeSram (c.page + 16 + i.val) w u))

/-- A request of word `i` whose owner reports one event, and then shows status `w`: the event is reported and the request
answered. -/
theorem reports_and_answers {s v : State} (c : Settings) (i : Fin 26) (w : Word) {ps : List Part} {k : EventKind}
    {subject d1 d2 : Word} (hreport : ReportsOne k subject d1 d2 (granting .processor s) v)
    (hstatus : v.notice.status = s.notice.status) (hsram : v.sram = s.sram) (hbus : v.bus = (granting .processor s).bus)
    (honly : OnlyAsks (.notice :: ps) (granting .processor s) v) :
    ReportsOne k subject d1 d2 s (settle s (writeSram (c.page + 16 + i.val) w (setStatus i w v))) ∧
      Answers c i w ps s (settle s (writeSram (c.page + 16 + i.val) w (setStatus i w v))) := by
  have hreport := hreport.of_before (s := s) rfl rfl rfl
  obtain ⟨honlyv, hasksv⟩ := honly
  have hgranted : Only (.writer :: .sram :: .notice :: .bus :: ps) s (granting .processor s) :=
    only_mono (only_granting .processor s) (by simp)
  have hacted := only_trans hgranted honlyv (List.cons_subset_cons _
    (List.Subset.trans (List.cons_subset_cons _ (List.subset_cons_self _ ps)) (List.subset_cons_self _ _)))
  have hshown := only_trans hacted (only_setStatus i w v) (by simp)
  refine ⟨hreport.of_after (by simp) (asks_settle s (writeSram (c.page + 16 + i.val) w (setStatus i w v))),
    answers_settle_writeSram c hsram ?_ hbus hreport.frame ⟨hshown, hasksv⟩⟩
  rw [setStatus_own, hstatus]

end Sys2Proof.Reports
end

section
/-! Proofs about container tracking (02): an illegal transition of the encoder, and the ring refilled by LINE_RESET. -/
namespace Sys2Proof.ContainerTracking

open Sys2Proof Sys2Proof.Machine Sys2Proof.Claims Sys2Proof.Reports

/-! ### SUSPECT (R35) -/

theorem markSuspect_track (s : State) :
    (markSuspect s).track =
      { s.track with ring := (markSuspect s).track.ring, queues := (markSuspect s).track.queues } := rfl

theorem recordAt_markSuspect (s : State) (p : Nat) (x : Record) (hx : recordAt p s = some x) :
    recordAt p (markSuspect s) = some (if p < decidePos s then { x with suspect := true } else x) := by
  have hx : s.track.ring[p]? = some x := hx
  have hring : recordAt p (markSuspect s) =
      ((s.track.ring.take (decidePos s)).map (fun c => { c with suspect := true }) ++
        s.track.ring.drop (decidePos s))[p]? := rfl
  have hlen : p < s.track.ring.length := (List.getElem?_eq_some_iff.mp hx).1
  rw [hring]
  split
  · next hp =>
    rw [List.getElem?_append_left (by simp; omega)]
    simp [hp, hx]
  · next hp =>
    have hback : decidePos s + (p - decidePos s) = p := by omega
    have htake : min (decidePos s) s.track.ring.length = decidePos s := by omega
    rw [List.getElem?_append_right (by simp; omega)]
    simp [htake, hback, hx]

theorem queue_markSuspect (s : State) (r : Fin 8) :
    (markSuspect s).track.queues[r] = s.track.queues[r].map fun a =>
      if (s.track.ring.take (decidePos s)).any (·.seq == a.seq) then { a with suspect := true } else a := by
  have hmem : ∀ a : Announce,
      a.seq ∈ undecidedSeqs s ↔ (s.track.ring.take (decidePos s)).any (·.seq == a.seq) = true := by
    intro a
    simp only [undecidedSeqs, List.mem_map, List.any_eq_true, beq_iff_eq]
  simp only [markSuspect, updTrack_own, mapAll_get, hmem]

theorem marksSuspect_markSuspect (s : State) : MarksSuspect s (markSuspect s) := by
  refine ⟨?_, fun p x hx => recordAt_markSuspect s p x hx, queue_markSuspect s⟩
  simp only [markSuspect, updTrack_own, List.length_append, List.length_map, List.length_take, List.length_drop]
  omega

/-- `MarksSuspect` reads of the state before it the ring, the queues and D only. -/
theorem marksSuspect_of_same {s u t : State} (hcfg : u.cfg = s.cfg) (hring : u.track.ring = s.track.ring)
    (hqueues : u.track.queues = s.track.queues) (h : MarksSuspect u t) : MarksSuspect s t := by
  unfold MarksSuspect recordAt decidePos at h ⊢
  rwa [hcfg, hring, hqueues] at h

/-! ### The illegal transition (R24) -/

/-- With both levels new, an edge in ACTIVE is an illegal transition. -/
theorem encoderEdge_illegal (s : State) (a b : Bool) (hactive : s.bus.device = .active) (ha : a ≠ s.track.pairA)
    (hb : b ≠ s.track.pairB) : encoderEdge a b s = illegalEdge (setPair a b s) := by
  have hact : isActive s = true := by simp [isActive, hactive]
  unfold encoderEdge countEdge
  rw [if_pos hact, if_neg fun h => ha h.1, if_pos ⟨ha, hb⟩]

/-- The state with the error counted, before the event and the marks. -/
def errorCounted (s : State) : State := updTrack (fun t => { t with encoderErrors := satInc t.encoderErrors }) s

theorem illegalEdge_eq (s : State) :
    illegalEdge s = markSuspect (append .encoderError 0 1 (newestLow s) (errorCounted s)) := rfl

theorem illegalEdge_onlyAsks (s : State) : OnlyAsks [.track, .notice] s (illegalEdge s) := by
  refine ⟨⟨by simp [illegalEdge], fun p hp => ?_⟩, ?_⟩
  · cases p
    case writer | track | notice => simp at hp
    all_goals simp [illegalEdge, Part.same]
  · rw [illegalEdge_eq]
    exact asks_trans (asks_append .encoderError 0 1 (newestLow s) (errorCounted s)) (asks_of_writer_eq rfl)

theorem illegalEdge_track (s : State) :
    (illegalEdge s).track = { s.track with encoderErrors := satInc s.track.encoderErrors,
                                           ring := (illegalEdge s).track.ring,
                                           queues := (illegalEdge s).track.queues } := by
  have hevent : (append .encoderError 0 1 (newestLow s) (errorCounted s)).track = (errorCounted s).track := by simp
  rw [illegalEdge_eq, markSuspect_track, hevent]
  rfl

theorem illegalEdge_marksSuspect (s : State) : MarksSuspect s (illegalEdge s) := by
  rw [illegalEdge_eq]
  exact marksSuspect_of_same (by simp [errorCounted]) (by simp [errorCounted]) (by simp [errorCounted])
    (marksSuspect_markSuspect _)

theorem newestLow_of_recordAt_zero (s : State) (x : Record) (hx : recordAt 0 s = some x) :
    newestLow s = x.seq.setWidth 16 := by
  unfold recordAt at hx
  unfold newestLow
  cases hring : s.track.ring with
  | nil => simp [hring] at hx
  | cons y ys =>
    have hy : y = x := by simpa [hring] using hx
    rw [← hy]
    rfl

theorem illegalEdge_reports (s : State) :
    ReportsOne .encoderError 0 1 (newestLow s) s (illegalEdge s) := by
  have h : ReportsOne .encoderError 0 1 (newestLow s) s (append .encoderError 0 1 (newestLow s) (errorCounted s)) :=
    (reportsOne_append .encoderError 0 1 (newestLow s) (errorCounted s)).of_before rfl rfl rfl
  exact h.of_after rfl (asks_of_writer_eq rfl)

theorem illegalEdge_status (s : State) : (illegalEdge s).notice.status = s.notice.status :=
  status_append .encoderError 0 1 (newestLow s) (errorCounted s)

/-- Settles O18: the edge is an illegal transition of the state with the new pair, which differs from `s` in the pair
alone. -/
theorem illegalTransitionMarksSuspect : Obligations.IllegalTransitionMarksSuspect := by
  intro s a b hactive ha hb t
  have ht : t = illegalEdge (setPair a b s) := encoderEdge_illegal s a b hactive ha hb
  have hreport := (illegalEdge_reports (setPair a b s)).of_before (s := s) rfl rfl rfl
  obtain ⟨hlogs, hraises, hframe⟩ := hreport
  obtain ⟨honly, hasks⟩ := illegalEdge_onlyAsks (setPair a b s)
  rw [ht]
  refine ⟨illegalEdge_track (setPair a b s), illegalEdge_marksSuspect (setPair a b s), fun x hx => ?_, hraises,
    ⟨hframe, illegalEdge_status (setPair a b s)⟩, ?_, hasks⟩
  · rwa [newestLow_of_recordAt_zero (setPair a b s) x hx] at hlogs
  · exact only_trans (only_mono (only_setPair a b s) (by simp)) honly (List.Subset.refl _)

/-! ### The ring refilled (R43) -/

theorem length_emptyRing (n : Nat) (q : Seq) (t : Time) (quality : TimeState) :
    (emptyRing n q t quality).length = n := by
  simp [emptyRing]

theorem getElem?_emptyRing {n p : Nat} {q : Seq} {t : Time} {quality : TimeState} {x : Record}
    (hx : (emptyRing n q t quality)[p]? = some x) :
    x = freshRecord (q + BitVec.ofNat 32 (n - 1 - p)) t quality true none := by
  have hp : p < n := by simpa [length_emptyRing] using (List.getElem?_eq_some_iff.mp hx).1
  simpa [emptyRing, hp] using hx.symm

/-- The line before LINE_RESET is reported: the ring refilled, every list of the line cleared (R43, R59, R83). -/
def clearedLine (n : Nat) (s : State) : State :=
  { s with
    track := { s.track with
      ring := emptyRing n s.track.nextSeq s.time.now s.time.state
      nextSeq := s.track.nextSeq + BitVec.ofNat 32 n
      queues := Vector.replicate 8 [], acc := 0, excursion := false }
    cameras := mapAll clearTriggers s.cameras
    reject := { s.reject with list := [], exitQueue := [] } }

theorem resetLine_eq (n : Nat) (cause : Word) (s : State) :
    resetLine n cause s =
      rewriteAll resetMirrors (append .lineReset 0 (satWord (discardCount s)) cause (clearedLine n s)) := rfl

theorem resetLine_asks (n : Nat) (cause : Word) (s : State) : Asks s (resetLine n cause s) := by
  rw [resetLine_eq]
  exact asks_trans (asks_append .lineReset 0 _ cause (clearedLine n s)) (asks_rewriteAll _ _)

theorem resetLine_own (n : Nat) (cause : Word) (s : State) :
    (resetLine n cause s).track = (clearedLine n s).track ∧ (resetLine n cause s).cameras = (clearedLine n s).cameras ∧
      (resetLine n cause s).reject = (clearedLine n s).reject := by
  simp [resetLine_eq]

theorem resetLine_only (n : Nat) (cause : Word) (s : State) :
    Only [.writer, .notice, .track, .cameras, .reject] s (resetLine n cause s) := by
  refine ⟨by simp, fun p hp => ?_⟩
  cases p
  case writer | notice | track | cameras | reject => simp at hp
  all_goals simp [Part.same]

theorem resetLine_reports (n : Nat) (cause : Word) (s : State) :
    ReportsOne .lineReset 0 (satWord (discardCount s)) cause s (resetLine n cause s) := by
  have h : ReportsOne .lineReset 0 (satWord (discardCount s)) cause s
      (append .lineReset 0 (satWord (discardCount s)) cause (clearedLine n s)) :=
    (reportsOne_append .lineReset 0 _ cause (clearedLine n s)).of_before rfl rfl rfl
  rw [resetLine_eq]
  exact h.of_after (by simp) (asks_rewriteAll _ _)

theorem resetLine_status (n : Nat) (cause : Word) (s : State) :
    (resetLine n cause s).notice.status = s.notice.status := by
  rw [resetLine_eq]
  exact Eq.trans (by simp) (status_append .lineReset 0 (satWord (discardCount s)) cause (clearedLine n s))

/-! ### The LINE_RESET request (R43, R176) -/

/-- LINE_RESET served: the Tracking Unit acts in the processor's slot, and the word takes the status it shows. -/
theorem exec_lineReset_serving (s : State) (c : Settings) (hserving : Serving s c) {w : Word} {v : State}
    (hacts : lineResetRequest (granting .processor s) = setStatus controlWord w v) :
    exec .lineReset s =
      .next (settle s (writeSram (c.page + 16 + controlWord.val) w (setStatus controlWord w v))) := by
  obtain ⟨hactive, hcfg, haccess, harbiter⟩ := hserving
  have hexec : exec .lineReset s = .next (settle s (requestWrite controlWord 1 s)) := rfl
  have haction : requestAction controlWord 1 (granting .processor s) = setStatus controlWord w v := hacts
  rw [hexec, requestWrite_serving s c controlWord 1 hactive hcfg haccess harbiter, haction]
  simp

theorem lineResetRequest_stopped (s : State) (c : Settings) (hcfg : s.cfg = some c) (hstopped : s.track.running = false) :
    lineResetRequest s = setStatus controlWord 0x0101 (resetLine c.track.len 1 s) := by
  have hlen : (trackCfg s).len = c.track.len := by simp [trackCfg, hcfg]
  unfold lineResetRequest
  rw [if_neg (by simp [hstopped]), hlen]
  rfl

theorem lineResetRequest_running (s : State) (hrunning : s.track.running = true) :
    lineResetRequest s = setStatus controlWord 1 (append .requestIgnored 40 9 1 s) := by
  unfold lineResetRequest
  rw [if_pos hrunning]
  rfl

/-- What a LINE_RESET while STOPPED leaves (R43). -/
theorem lineReset_stopped (s : State) (c : Settings) (hserving : Serving s c) (hstopped : s.track.running = false) :
    ∃ t, exec .lineReset s = .next t ∧ t.track = (clearedLine c.track.len s).track ∧
      t.cameras = (clearedLine c.track.len s).cameras ∧ t.reject = (clearedLine c.track.len s).reject ∧
      ReportsOne .lineReset 0 (satWord (discardCount s)) 1 s t ∧ Answers c 24 0x0101 [.track, .cameras, .reject] s t := by
  have ⟨_, hcfg, _, _⟩ := hserving
  have hacts := lineResetRequest_stopped (granting .processor s) c hcfg hstopped
  obtain ⟨htrack, hcameras, hreject⟩ := resetLine_own c.track.len 1 (granting .processor s)
  obtain ⟨hreport, hanswers⟩ := reports_and_answers c controlWord 0x0101
    (resetLine_reports c.track.len 1 (granting .processor s)) (resetLine_status c.track.len 1 (granting .processor s))
    (by simp) (by simp)
    ⟨resetLine_only c.track.len 1 (granting .processor s), resetLine_asks c.track.len 1 (granting .processor s)⟩
  refine ⟨_, exec_lineReset_serving s c hserving hacts, ?_, ?_, ?_, hreport, hanswers⟩
  · exact Eq.trans (by simp) htrack
  · exact Eq.trans (by simp) hcameras
  · exact Eq.trans (by simp) hreject

/-- A LINE_RESET while RUNNING is ignored with LINE_RUNNING (R43, R176). -/
theorem lineReset_running (s : State) (c : Settings) (hserving : Serving s c) (hrunning : s.track.running = true) :
    ∃ t, exec .lineReset s = .next t ∧ ReportsOne .requestIgnored 40 9 1 s t ∧ Answers c 24 1 [] s t := by
  have hacts := lineResetRequest_running (granting .processor s) hrunning
  obtain ⟨hreport, hanswers⟩ := reports_and_answers c controlWord 1
    (reportsOne_append .requestIgnored 40 9 1 (granting .processor s))
    (status_append .requestIgnored 40 9 1 (granting .processor s)) (by simp) (by simp)
    (ps := []) ⟨only_append .requestIgnored 40 9 1 (granting .processor s),
      asks_append .requestIgnored 40 9 1 (granting .processor s)⟩
  exact ⟨_, exec_lineReset_serving s c hserving hacts, hreport, hanswers⟩

/-- Settles O23: STOPPED, the request resets the line; RUNNING, it is ignored. -/
theorem lineResetRefillsTheRing : Obligations.LineResetRefillsTheRing := by
  refine fun s c hserving => ⟨fun hstopped => ?_, fun hrunning => ?_⟩
  · obtain ⟨t, hexec, htrack, hcameras, hreject, hreport, hanswers⟩ := lineReset_stopped s c hserving hstopped
    have hring : t.track.ring = emptyRing c.track.len s.track.nextSeq s.time.now s.time.state := by rw [htrack]; rfl
    refine ⟨t, hexec, ?_, fun p x hx => ?_, ?_, fun k => ?_, hreject, hreport.logs, hreport.raises, hanswers⟩
    · rw [hring, length_emptyRing]
    · rw [recordAt, hring] at hx
      rw [getElem?_emptyRing hx]
      exact ⟨rfl, rfl, rfl⟩
    · rw [htrack]
      rfl
    · rw [hcameras]
      exact mapAll_get clearTriggers s.cameras k
  · obtain ⟨t, hexec, hreport, hanswers⟩ := lineReset_running s c hserving hrunning
    exact ⟨t, hexec, hreport.logs, hreport.raises, hanswers⟩

end Sys2Proof.ContainerTracking
end

section
/-! Proofs about the read indices of the outcome ring and the event ring (04, 11): OUTCOME_READ and EVENT_READ. -/
namespace Sys2Proof.ReadIndices

open Sys2Proof Sys2Proof.Machine Sys2Proof.Claims Sys2Proof.Reports

/-! ### The occupied span (R80, R181) -/

theorem inSpan_iff (n r w x : Nat) : inSpan n r w x = true ↔ x < n ∧ (x + n - r) % n ≤ (w + n - r) % n := by
  simp [inSpan]

theorem outcomeReadRequest_inside (w : Word) (s : State)
    (h : inSpan (outcomeSlots s) s.reject.readIx s.reject.writeIx w.toNat = true) :
    outcomeReadRequest w s =
      setStatus outcomeReadWord w (updReject (fun j => { j with readIx := w.toNat }) s) := by
  simp [outcomeReadRequest, h]

theorem outcomeReadRequest_outside (w : Word) (s : State)
    (h : ¬ inSpan (outcomeSlots s) s.reject.readIx s.reject.writeIx w.toNat = true) :
    outcomeReadRequest w s =
      setStatus outcomeReadWord (BitVec.ofNat 16 s.reject.readIx) (ignoreEvent outcomeReadWord reasonOutOfSpan w s) := by
  simp [outcomeReadRequest, h]

/-- The state with a new event read index. -/
def eventReadAt (x : Nat) (s : State) : State := { s with notice := { s.notice with readIx := x } }

theorem eventReadRequest_inside (w : Word) (s : State)
    (h : inSpan 64 s.notice.readIx s.notice.writeIx w.toNat = true) :
    eventReadRequest w s = setStatus eventReadWord w (eventReadAt w.toNat s) := by
  simp [eventReadRequest, eventReadAt, h]

/-- An ignored index leaves the read index that the word goes on showing. -/
theorem eventReadRequest_outside (w : Word) (s : State)
    (h : ¬ inSpan 64 s.notice.readIx s.notice.writeIx w.toNat = true) :
    eventReadRequest w s =
      setStatus eventReadWord (BitVec.ofNat 16 s.notice.readIx) (ignoreEvent eventReadWord reasonOutOfSpan w s) := by
  obtain ⟨⟨-, -, hreadIx, -⟩, -⟩ := noticeKept_append .requestIgnored 38 reasonOutOfSpan w s
  unfold eventReadRequest
  rw [if_neg h, ← hreadIx]
  rfl

/-! ### A request served (R91, R175) -/

/-- A request word served: its owner acts in the processor's slot, and the word takes the status it shows. -/
theorem requestWrite_shows (s : State) (c : Settings) (hserving : Serving s c) {i : Fin 26} {v w : Word} {u : State}
    (hacts : requestAction i v (granting .processor s) = setStatus i w u) :
    requestWrite i v s = writeSram (c.page + 16 + i.val) w (setStatus i w u) := by
  obtain ⟨hactive, hcfg, haccess, harbiter⟩ := hserving
  rw [requestWrite_serving s c i v hactive hcfg haccess harbiter, hacts]
  simp

/-- A request ignored with a reason is reported once and changes nothing; its word shows status `x` (R176). -/
theorem requestIgnored_reported (s : State) (c : Settings) (hserving : Serving s c) {i : Fin 26} {w x reason : Word}
    (hacts : requestAction i w (granting .processor s) =
      setStatus i x (ignoreEvent i reason w (granting .processor s))) :
    ReportsOne .requestIgnored (BitVec.ofNat 16 (16 + i.val)) reason w s (settle s (requestWrite i w s)) ∧
      Answers c i x [] s (settle s (requestWrite i w s)) := by
  rw [requestWrite_shows s c hserving hacts]
  exact reports_and_answers c i x (reportsOne_append .requestIgnored _ reason w (granting .processor s))
    (status_append .requestIgnored _ reason w (granting .processor s)) (by simp [ignoreEvent]) (by simp [ignoreEvent])
    ⟨only_append .requestIgnored _ reason w (granting .processor s),
      asks_append .requestIgnored _ reason w (granting .processor s)⟩

/-! ### Only the read index moves -/

theorem only_updReject (f : RejectUnit → RejectUnit) (s : State) : Only [.reject] s (updReject f s) := by
  refine ⟨rfl, fun p hp => ?_⟩
  cases p
  case reject => exact absurd (List.mem_singleton_self _) hp
  all_goals rfl

theorem only_eventReadAt (x : Nat) (s : State) : Only [.notice] s (eventReadAt x s) := by
  refine ⟨rfl, fun p hp => ?_⟩
  cases p
  case notice => exact absurd (List.mem_singleton_self _) hp
  all_goals rfl

/-- Storing a request word and asking for mirrors touch SRAM and the list of write-outs only. -/
theorem settle_writeSram_frame (a : Nat) (w : Word) (s u : State) :
    let t := settle s (writeSram a w u)
    t.bus = u.bus ∧ t.reject = u.reject ∧ t.notice = u.notice := by
  simp only [settle_frame, writeSram_frame, and_self]

theorem stores_settle_writeSram (a : Nat) (w : Word) {s u : State} (hsram : u.sram = s.sram) :
    Stores a w s (settle s (writeSram a w u)) := by
  simpa [Stores] using stores_writeSram a w hsram

/-- A word stored and the mirrors asked for: with SRAM among the fields that may differ, no other does. -/
theorem onlyAsks_settle_writeSram {ps : List Part} {s u : State} (a : Nat) (w : Word) (h : OnlyAsks ps s u)
    (hsram : Part.sram ∈ ps) : OnlyAsks ps s (settle s (writeSram a w u)) := by
  obtain ⟨honly, hasks⟩ := h
  have hwritten := only_trans honly (only_writeSram a w u) (by simp [hsram])
  exact ⟨only_trans hwritten (only_settle s _) (by simp), asks_trans hasks (asks_settle s (writeSram a w u))⟩

/-! ### OUTCOME_READ (R80) -/

theorem exec_outcomeRead (w : Word) (s : State) :
    exec (.outcomeRead w) s = .next (settle s (requestWrite outcomeReadWord w s)) := rfl

theorem outcomeRead_inside (s : State) (c : Settings) (w : Word) (hserving : Serving s c)
    (h : inSpan (outcomeSlots s) s.reject.readIx s.reject.writeIx w.toNat = true) :
    ∃ t, exec (.outcomeRead w) s = .next t ∧ t.reject = { s.reject with readIx := w.toNat } ∧
      Answers c 21 w [.reject] s t ∧ LogsNothing s t ∧ Raises [] s t := by
  have hacts : requestAction outcomeReadWord w (granting .processor s) =
      setStatus outcomeReadWord w (updReject (fun j => { j with readIx := w.toNat }) (granting .processor s)) :=
    outcomeReadRequest_inside w (granting .processor s) h
  have hmoved := only_trans (ps := [.writer, .sram, .notice, .bus, .reject])
    (only_mono (only_granting .processor s) (by simp))
    (only_updReject (fun j => { j with readIx := w.toNat }) (granting .processor s)) (by simp)
  have honly := only_trans hmoved (only_setStatus outcomeReadWord w _) (by simp)
  refine ⟨_, exec_outcomeRead w s, ?_⟩
  rw [requestWrite_shows s c hserving hacts]
  obtain ⟨-, hreject, hnotice⟩ := settle_writeSram_frame (c.page + 16 + outcomeReadWord.val) w s
    (setStatus outcomeReadWord w (updReject (fun j => { j with readIx := w.toNat }) (granting .processor s)))
  refine ⟨?_, answers_settle_writeSram c rfl rfl rfl ⟨rfl, rfl, rfl, rfl⟩ ⟨honly, asks_of_writer_eq rfl⟩, ?_, ?_⟩
  · exact hreject
  · rw [LogsNothing, hnotice]
    exact ⟨rfl, rfl, rfl⟩
  · intro n _
    rw [hnotice]
    exact (Bool.or_false _).symm

theorem outcomeRead_outside (s : State) (c : Settings) (w : Word) (hserving : Serving s c)
    (h : ¬ inSpan (outcomeSlots s) s.reject.readIx s.reject.writeIx w.toNat = true) :
    ∃ t, exec (.outcomeRead w) s = .next t ∧ Answers c 21 (BitVec.ofNat 16 s.reject.readIx) [] s t ∧
      Logs .requestIgnored 37 6 w s t ∧ Raises [] s t := by
  obtain ⟨hreport, hanswers⟩ := requestIgnored_reported s c hserving (i := outcomeReadWord)
    (outcomeReadRequest_outside w (granting .processor s) h)
  exact ⟨_, exec_outcomeRead w s, hanswers, hreport.logs, hreport.raises⟩

/-! ### EVENT_READ (R181) -/

theorem exec_eventRead (w : Word) (s : State) :
    exec (.eventRead w) s = .next (settle s (requestWrite eventReadWord w s)) := rfl

theorem eventRead_inside (s : State) (c : Settings) (w : Word) (hserving : Serving s c)
    (h : inSpan 64 s.notice.readIx s.notice.writeIx w.toNat = true) :
    ∃ t, exec (.eventRead w) s = .next t ∧
      t.notice = { s.notice with readIx := w.toNat, status := s.notice.status.set 22 w } ∧
      Stores (c.page + 38) w s t ∧ t.bus = (granting .processor s).bus ∧ OnlyAsks [.sram, .notice, .bus] s t := by
  have hacts : requestAction eventReadWord w (granting .processor s) =
      setStatus eventReadWord w (eventReadAt w.toNat (granting .processor s)) :=
    eventReadRequest_inside w (granting .processor s) h
  have hmoved := only_trans (ps := [.writer, .sram, .notice, .bus]) (only_mono (only_granting .processor s) (by simp))
    (only_eventReadAt w.toNat (granting .processor s)) (by simp)
  have honly := only_trans hmoved (only_setStatus eventReadWord w _) (by simp)
  refine ⟨_, exec_eventRead w s, ?_⟩
  rw [requestWrite_shows s c hserving hacts]
  obtain ⟨hbus, -, hnotice⟩ := settle_writeSram_frame (c.page + 16 + eventReadWord.val) w s
    (setStatus eventReadWord w (eventReadAt w.toNat (granting .processor s)))
  exact ⟨hnotice, stores_settle_writeSram (c.page + 38) w rfl, hbus,
    onlyAsks_settle_writeSram (c.page + 38) w ⟨honly, asks_of_writer_eq rfl⟩ (by simp)⟩

theorem eventRead_outside (s : State) (c : Settings) (w : Word) (hserving : Serving s c)
    (h : ¬ inSpan 64 s.notice.readIx s.notice.writeIx w.toNat = true) :
    ∃ t, exec (.eventRead w) s = .next t ∧ Answers c 22 (BitVec.ofNat 16 s.notice.readIx) [] s t ∧
      Logs .requestIgnored 38 6 w s t ∧ Raises [] s t := by
  obtain ⟨hreport, hanswers⟩ := requestIgnored_reported s c hserving (i := eventReadWord)
    (eventReadRequest_outside w (granting .processor s) h)
  exact ⟨_, exec_eventRead w s, hanswers, hreport.logs, hreport.raises⟩

/-- Settles O36: for each ring, the index offered lies in the span, and moves the read index, or outside it, and is
ignored. -/
theorem readIndicesStayInTheSpan : Obligations.ReadIndicesStayInTheSpan := by
  intro s c w hserving n spanned
  have hspan : ∀ n r v, spanned n r v ↔ inSpan n r v w.toNat = true := fun n r v => (inSpan_iff n r v w.toNat).symm
  exact ⟨fun hin => outcomeRead_inside s c w hserving ((hspan _ _ _).mp hin),
    fun hout => outcomeRead_outside s c w hserving (mt (hspan _ _ _).mpr hout),
    fun hin => eventRead_inside s c w hserving ((hspan _ _ _).mp hin),
    fun hout => eventRead_outside s c w hserving (mt (hspan _ _ _).mpr hout)⟩

end Sys2Proof.ReadIndices
end

section
/-! Proofs about output banks (06): the HANDOVER requests that leave every role and mask as it is. -/
namespace Sys2Proof.OutputBanks

open Sys2Proof Sys2Proof.Machine Sys2Proof.Claims Sys2Proof.Reports

/-! ### One robot changed -/

theorem robots_updRobot_self (r : Fin 8) (f : Robot → Robot) (s : State) :
    (updRobot r f s).robots[r] = f s.robots[r] := by
  simp [modAt]

theorem robots_updRobot_ne {q r : Fin 8} (f : Robot → Robot) (s : State) (h : q ≠ r) :
    (updRobot r f s).robots[q] = s.robots[q] := by
  have hval : r.val ≠ q.val := fun heq => h (Fin.ext heq.symm)
  simp [modAt, hval]

theorem only_updRobot (r : Fin 8) (f : Robot → Robot) (s : State) : Only [.robots] s (updRobot r f s) := by
  refine ⟨rfl, fun p hp => ?_⟩
  cases p
  case robots => exact absurd (List.mem_singleton_self _) hp
  all_goals rfl

theorem only_raiseFlag (n : Nat) (s : State) : Only [.notice] s (raiseFlag n s) := by
  refine ⟨rfl, fun p hp => ?_⟩
  cases p
  case notice => exact absurd (List.mem_singleton_self _) hp
  all_goals rfl

theorem raises_raiseFlag (n : Nat) (hn : n < 16) (s : State) : Raises [n] s (raiseFlag n s) := by
  intro m _
  rw [raiseFlag_own, BitVec.getLsbD_or, BitVec.getLsbD_ofNat, Nat.testBit_two_pow]
  by_cases h : n = m
  · subst h
    simp [hn]
  · simp [h, Ne.symm h]

/-! ### What a request does before its outcome is recorded -/

/-- The work of a HANDOVER of robot `r` before its outcome is recorded, where the request is not performed: reports and
counters, and a hand-over that pends, but no role and no mask (R105, R106). -/
structure KeepsBanks (r : Fin 8) (s v : State) : Prop where
  onlyAsks : OnlyAsks [.notice, .robots] s v
  notice : NoticeKept s v
  out : v.robots[r].out = s.robots[r].out
  masks : v.robots[r].masks = s.robots[r].masks
  others : ∀ q, q ≠ r → v.robots[q] = s.robots[q]

theorem KeepsBanks.refl (r : Fin 8) (s : State) : KeepsBanks r s s where
  onlyAsks := ⟨⟨rfl, fun p _ => by cases p <;> rfl⟩, asks_of_writer_eq rfl⟩
  notice := ⟨⟨rfl, rfl, rfl, rfl⟩, rfl⟩
  out := rfl
  masks := rfl
  others _ _ := rfl

theorem noticeKept_trans {s u t : State} (hsu : NoticeKept s u) (hut : NoticeKept u t) : NoticeKept s t := by
  obtain ⟨⟨he, hg, hr, hs⟩, hstatus⟩ := hsu
  obtain ⟨⟨he', hg', hr', hs'⟩, hstatus'⟩ := hut
  exact ⟨⟨he'.trans he, hg'.trans hg, hr'.trans hr, hs'.trans hs⟩, hstatus'.trans hstatus⟩

theorem KeepsBanks.trans {r : Fin 8} {s u v : State} (hsu : KeepsBanks r s u) (huv : KeepsBanks r u v) :
    KeepsBanks r s v where
  onlyAsks := ⟨only_trans hsu.onlyAsks.1 huv.onlyAsks.1 (List.Subset.refl _),
    asks_trans hsu.onlyAsks.2 huv.onlyAsks.2⟩
  notice := noticeKept_trans hsu.notice huv.notice
  out := huv.out.trans hsu.out
  masks := huv.masks.trans hsu.masks
  others q hq := (huv.others q hq).trans (hsu.others q hq)

theorem keepsBanks_append (r : Fin 8) (k : EventKind) (subject d1 d2 : Word) (s : State) :
    KeepsBanks r s (append k subject d1 d2 s) where
  onlyAsks := ⟨only_mono (only_append k subject d1 d2 s) (by simp), asks_append k subject d1 d2 s⟩
  notice := noticeKept_append k subject d1 d2 s
  out := by simp
  masks := by simp
  others := by simp

theorem keepsBanks_raiseFlag (r : Fin 8) (n : Nat) (s : State) : KeepsBanks r s (raiseFlag n s) where
  onlyAsks := ⟨only_mono (only_raiseFlag n s) (by simp), asks_of_writer_eq rfl⟩
  notice := ⟨⟨rfl, rfl, rfl, rfl⟩, rfl⟩
  out := rfl
  masks := rfl
  others _ _ := rfl

theorem keepsBanks_updRobot (r : Fin 8) {f : Robot → Robot} (s : State) (hout : ∀ b, (f b).out = b.out)
    (hmasks : ∀ b, (f b).masks = b.masks) : KeepsBanks r s (updRobot r f s) where
  onlyAsks := ⟨only_mono (only_updRobot r f s) (by simp), asks_of_writer_eq rfl⟩
  notice := ⟨⟨rfl, rfl, rfl, rfl⟩, rfl⟩
  out := by rw [robots_updRobot_self, hout]
  masks := by rw [robots_updRobot_self, hmasks]
  others _ hq := robots_updRobot_ne f s hq

theorem keepsBanks_dropRecipe (r : Fin 8) (w : Word) (s : State) : KeepsBanks r s (dropRecipe r w s) :=
  (keepsBanks_updRobot (f := fun b => { b with recipeDrops := satInc b.recipeDrops }) r s (fun _ => rfl)
    (fun _ => rfl)).trans (keepsBanks_append r _ _ _ _ _)

/-- Whether a robot has a CHECK bank is read off its output roles. -/
theorem checking_of_out {b b' : Robot} (h : b'.out = b.out) : checking b' = checking b := by
  simp [checking, outBank, h]

/-! ### A HANDOVER served (R91, R113) -/

/-- The state a HANDOVER leaves. -/
def afterHandover (r : Fin 8) (w : Word) (s : State) : State := settle s (requestWrite (handoverWord r) w s)

theorem exec_handover (r : Fin 8) (w : Word) (s : State) : exec (.handover r w) s = .next (afterHandover r w s) := rfl

theorem requestAction_handoverWord (r : Fin 8) (w : Word) (s : State) :
    requestAction (handoverWord r) w s = handoverRequest r w s := by
  have hr : Fin.ofNat 8 (handoverWord r).val = r := Fin.ext (Nat.mod_eq_of_lt r.isLt)
  have hword : (handoverWord r).val < 8 := r.isLt
  rw [requestAction, if_pos hword, hr]

/-- A robot with the outcome of its latest HANDOVER recorded. -/
def withOutcome (x : ReqResult) (byte : Byte) (b : Robot) : Robot := { b with result := x, maskByte := byte }

theorem handoverResult_eq (r : Fin 8) (x : ReqResult) (byte : Byte) (v : State) :
    handoverResult r x byte v =
      setStatus (handoverWord r) (handoverStatus (withOutcome x byte v.robots[r]))
        (updRobot r (withOutcome x byte) v) := by
  rw [← robots_updRobot_self r (withOutcome x byte) v]
  rfl

/-- A HANDOVER of robot `r` whose work before the outcome leads from the processor's slot to `v`, and whose outcome is
then recorded, leaves `t`. -/
structure Recorded (c : Settings) (r : Fin 8) (x : ReqResult) (byte : Byte) (s v t : State) : Prop where
  robots : t.robots = (updRobot r (withOutcome x byte) v).robots
  notice : t.notice = { v.notice with status := t.notice.status }
  asks : Asks v t
  answers : Answers c (handoverWord r) (handoverStatus (withOutcome x byte v.robots[r])) [.robots] s t

theorem recorded_afterHandover {s v : State} {c : Settings} {r : Fin 8} {w : Word} {x : ReqResult} {byte : Byte}
    (hserving : Serving s c) (hrequest : handoverRequest r w (granting .processor s) = handoverResult r x byte v)
    (hkeeps : KeepsBanks r (granting .processor s) v) : Recorded c r x byte s v (afterHandover r w s) := by
  have hacts := (requestAction_handoverWord r w (granting .processor s)).trans
    (hrequest.trans (handoverResult_eq r x byte v))
  obtain ⟨⟨honlyv, hasksv⟩, ⟨hframe, hstatus⟩, -, -, -⟩ := hkeeps
  have hbus : v.bus = (granting .processor s).bus := honlyv.2 .bus (by simp)
  have hsram : v.sram = s.sram := honlyv.2 .sram (by simp)
  have hgranted : Only [.writer, .sram, .notice, .bus, .robots] s (granting .processor s) :=
    only_mono (only_granting .processor s) (by simp)
  have hacted := only_trans hgranted honlyv (by simp)
  have hupdated := only_trans hacted (only_updRobot r (withOutcome x byte) v) (by simp)
  have hshown := only_trans hupdated
    (only_setStatus (handoverWord r) (handoverStatus (withOutcome x byte v.robots[r])) _) (by simp)
  rw [afterHandover, ReadIndices.requestWrite_shows s c hserving hacts]
  refine ⟨by simp, by simp, asks_trans (asks_of_writer_eq rfl) (asks_settle s (writeSram _ _ _)), ?_⟩
  refine answers_settle_writeSram c hsram ?_ hbus hframe ⟨hshown, hasksv⟩
  have hstatus : (updRobot r (withOutcome x byte) v).notice.status = s.notice.status := hstatus
  rw [setStatus_own, hstatus]

section
variable {c : Settings} {r : Fin 8} {x : ReqResult} {byte : Byte} {s v t : State}

theorem Recorded.robot (h : Recorded c r x byte s v t) : t.robots[r] = withOutcome x byte v.robots[r] := by
  rw [h.robots, robots_updRobot_self]

theorem Recorded.others (h : Recorded c r x byte s v t) (hkeeps : KeepsBanks r (granting .processor s) v) (q : Fin 8)
    (hq : q ≠ r) : t.robots[q] = s.robots[q] := by
  rw [h.robots, robots_updRobot_ne _ _ hq, hkeeps.others q hq]
  rfl

/-- The outcome recorded adds nothing to the report of an event. -/
theorem Recorded.reports {k : EventKind} {subject d1 d2 : Word} {u : State} (h : Recorded c r x byte s v t)
    (hreport : ReportsOne k subject d1 d2 u v) : ReportsOne k subject d1 d2 u t :=
  hreport.of_after h.notice h.asks

end

/-! ### The status word (R113) -/

theorem handoverStatus_withOutcome (x : ReqResult) (byte : Byte) (b : Robot) :
    handoverStatus (withOutcome x byte b) =
      fieldAt 12 (resultCode x) ||| flagAt 11 (checking b) ||| flagAt 10 b.pendingMask.isSome |||
        byte.setWidth 16 := rfl

theorem flagAt_lt (k n : Nat) (p : Bool) (hkn : k < n) : (flagAt k p).toNat < 2 ^ n := by
  have hpow : 2 ^ k < 2 ^ n := Nat.pow_lt_pow_right (by omega) hkn
  cases p
  · exact Nat.two_pow_pos n
  · exact Nat.lt_of_le_of_lt (Nat.mod_le (2 ^ k) (2 ^ 16)) hpow

/-- The result code IGNORED is 0 in the word's top four bits. -/
theorem handoverStatus_ignored (byte : Byte) (b : Robot) :
    (handoverStatus (withOutcome .ignored byte b)).toNat / 4096 = 0 := by
  have hbyte : (byte.setWidth 16).toNat < 2 ^ 12 := by
    have := byte.isLt
    rw [BitVec.toNat_setWidth]
    omega
  rw [handoverStatus_withOutcome, BitVec.toNat_or, BitVec.toNat_or, BitVec.toNat_or]
  exact Nat.div_eq_of_lt (Nat.or_lt_two_pow (Nat.or_lt_two_pow (Nat.or_lt_two_pow (by decide)
    (flagAt_lt 11 12 _ (by omega))) (flagAt_lt 10 12 _ (by omega))) hbyte)

theorem handoverStatus_pended (m : BitVec 2) {b : Robot} (hchecking : checking b = true)
    (hpending : b.pendingMask.isSome = true) :
    handoverStatus (withOutcome .pended (m.setWidth 8) b) = 0x2C00 ||| m.setWidth 16 := by
  rw [handoverStatus_withOutcome, hchecking, hpending, BitVec.setWidth_setWidth (by omega)]
  rfl

theorem setWidth_loByte (w : Word) : (loByte w).setWidth 16 = w &&& 0x00FF := by
  apply BitVec.eq_of_toNat_eq
  simp only [loByte, BitVec.toNat_setWidth, BitVec.toNat_and]
  have hbyte : w.toNat % 2 ^ 8 < 2 ^ 16 := by omega
  rw [Nat.mod_eq_of_lt hbyte]
  exact (Nat.and_two_pow_sub_one_eq_mod w.toNat 8).symm

theorem handoverStatus_overrun (w : Word) {b : Robot} (hpending : b.pendingMask.isSome = true) :
    handoverStatus (withOutcome .overrun (loByte w) b) =
      0x3400 ||| (if checking b then 0x0800 else 0) ||| (w &&& 0x00FF) := by
  rw [handoverStatus_withOutcome, hpending, setWidth_loByte]
  cases checking b
  all_goals rfl

/-! ### The mask reduced (R106) -/

theorem atLeast_adjust_iff (l : Level) : atLeast l .adjust = true ↔ l ∉ [Level.none, .view] := by
  cases l
  all_goals decide

theorem low_of_not_atLeast_adjust {l : Level} (h : ¬ atLeast l .adjust = true) : l ∈ [Level.none, .view] :=
  Decidable.not_not.mp (mt (atLeast_adjust_iff l).mpr h)

/-- RECIPE is bit 1 of a mask: the mask without it is the mask's bit 0. -/
theorem mask_and_not_recipe (m : BitVec 2) : m &&& ~~~maskRecipe = m &&& 1 := by
  rw [show ~~~maskRecipe = 1 by decide]

theorem mask_and_recipe_eq_zero_iff (w : Word) : w.setWidth 2 &&& maskRecipe = 0 ↔ w.getLsbD 1 = false := by
  have hbit : w.getLsbD 1 = (w.setWidth 2).getLsbD 1 := by simp
  rw [hbit]
  generalize w.setWidth 2 = m
  revert m
  decide

/-- A mask without RECIPE is its bit 0. -/
theorem mask_and_one_of_recipe_clear (w : Word) (h : w.getLsbD 1 = false) : w.setWidth 2 &&& 1 = w.setWidth 2 := by
  rw [← mask_and_recipe_eq_zero_iff] at h
  generalize w.setWidth 2 = m at h ⊢
  revert m
  decide

theorem recipeEmpty_iff {s : State} {r : Fin 8} {g : RobotCfg} (hrobot : robotCfg s r = some g) :
    recipeEmpty s r = true ↔ g.nOut = g.motion := by
  simp [recipeEmpty, hrobot]

/-- The reason given for an empty mask: BAD_VALUE unless the robot has a recipe section and the mask asks for it. -/
def emptyReason (g : RobotCfg) (w : Word) : Word :=
  if g.nOut ≠ g.motion ∧ w.getLsbD 1 = true then reasonGrantLevel else reasonBadValue

/-- The model's reduction gives the mask taken, and drops RECIPE exactly where it is dropped for want of level. -/
theorem reducedMask_eq {s : State} {r : Fin 8} {g : RobotCfg} (w : Word) (hrobot : robotCfg s r = some g) :
    ∃ dropped, reducedMask s r w = (maskTaken s g w, emptyReason g w, dropped) ∧
      (dropped = true ↔ dropsRecipe s g w) := by
  by_cases hempty : g.nOut = g.motion
  · have hmask : maskTaken s g w = w.setWidth 2 &&& 1 := if_neg fun h => h.1 hempty
    have hreason : emptyReason g w = reasonBadValue := if_neg fun h => h.1 hempty
    refine ⟨false, ?_, nofun, fun ⟨hsection, _, _⟩ => absurd hempty hsection⟩
    simp only [reducedMask]
    rw [if_pos ((recipeEmpty_iff hrobot).mpr hempty), mask_and_not_recipe, hmask, hreason]
  have hsection : ¬ recipeEmpty s r = true := mt (recipeEmpty_iff hrobot).mp hempty
  by_cases hrecipe : w.getLsbD 1 = true
  · have hasked : ¬ w.setWidth 2 &&& maskRecipe = 0 := by
      rw [mask_and_recipe_eq_zero_iff, hrecipe]
      exact nofun
    have hreason : emptyReason g w = reasonGrantLevel := if_pos ⟨hempty, hrecipe⟩
    by_cases hlevel : atLeast (effectiveLevel s) .adjust = true
    · have hmask : maskTaken s g w = w.setWidth 2 := if_pos ⟨hempty, hlevel⟩
      refine ⟨false, ?_, nofun, fun ⟨_, hlow, _⟩ => absurd hlow ((atLeast_adjust_iff _).mp hlevel)⟩
      simp only [reducedMask]
      rw [if_neg hsection, if_neg hasked, if_pos hlevel, hmask, hreason]
    · have hmask : maskTaken s g w = w.setWidth 2 &&& 1 := if_neg fun h => hlevel h.2
      have hlow : effectiveLevel s ∈ [Level.none, .view] := low_of_not_atLeast_adjust hlevel
      refine ⟨true, ?_, fun _ => ⟨hempty, hlow, hrecipe⟩, fun _ => rfl⟩
      simp only [reducedMask]
      rw [if_neg hsection, if_neg hasked, if_neg hlevel, mask_and_not_recipe, hmask, hreason]
  · have hclear : w.getLsbD 1 = false := Bool.eq_false_iff.mpr hrecipe
    have hmask : maskTaken s g w = w.setWidth 2 := by
      rw [maskTaken, mask_and_one_of_recipe_clear w hclear, ite_self]
    have hreason : emptyReason g w = reasonBadValue := if_neg fun h => hrecipe h.2
    refine ⟨false, ?_, nofun, fun ⟨_, _, hasked⟩ => absurd hasked hrecipe⟩
    simp only [reducedMask]
    rw [if_neg hsection, if_pos ((mask_and_recipe_eq_zero_iff w).mpr hclear), hmask, hreason]

/-- A value of 1 to 3 whose mask the reduction leaves empty asks for RECIPE, which a robot with a recipe section is
denied for want of level. -/
theorem dropsRecipe_of_maskTaken_zero {s : State} {g : RobotCfg} {w : Word} (hne : w ≠ 0) (hle : w.toNat ≤ 3)
    (hzero : maskTaken s g w = 0) (hsection : g.nOut ≠ g.motion) : dropsRecipe s g w := by
  have hmask : w.setWidth 2 ≠ 0 := by
    intro h
    have h := congrArg BitVec.toNat h
    rw [BitVec.toNat_setWidth, Nat.mod_eq_of_lt (by omega)] at h
    exact hne (BitVec.eq_of_toNat_eq h)
  unfold maskTaken at hzero
  split at hzero
  · exact absurd hzero hmask
  · next hdenied =>
    have hlevel : ¬ atLeast (effectiveLevel s) .adjust = true := fun h => hdenied ⟨hsection, h⟩
    refine ⟨hsection, low_of_not_atLeast_adjust hlevel, eq_true_of_ne_false fun hclear => ?_⟩
    rw [mask_and_one_of_recipe_clear w hclear] at hzero
    exact hmask hzero

/-! ### The outcomes of a request (R104, R105, R106) -/

/-- The overrun count of a robot raised. -/
def withOverrun (b : Robot) : Robot := { b with overruns := satInc b.overruns }

/-- A mask that waits for the completion of the check. -/
def withPending (m : BitVec 2) (b : Robot) : Robot := { b with pendingMask := some m }

/-- RECIPE dropped where a request drops it. -/
def afterDrop (r : Fin 8) (w : Word) (s : State) : State := if (reducedMask s r w).2.2 then dropRecipe r w s else s

theorem keepsBanks_afterDrop (r : Fin 8) (w : Word) (s : State) : KeepsBanks r s (afterDrop r w s) := by
  unfold afterDrop
  split
  · exact keepsBanks_dropRecipe r w s
  · exact KeepsBanks.refl r s

section
variable {r : Fin 8} {w : Word} {s : State} {g : RobotCfg}

theorem handoverRequest_badValue (hbad : w = 0 ∨ 3 < w.toNat) :
    handoverRequest r w s =
      handoverResult r .ignored (loByte w) (ignoreEvent (handoverWord r) reasonBadValue w s) := by
  rw [handoverRequest, if_pos hbad]

theorem handoverRequest_notConfigured (hvalue : ¬ (w = 0 ∨ 3 < w.toNat)) (hrobot : robotCfg s r = none) :
    handoverRequest r w s =
      handoverResult r .ignored (loByte w) (ignoreEvent (handoverWord r) reasonNotConfigured w s) := by
  rw [handoverRequest, if_neg hvalue, hrobot]
  rfl

theorem handoverRequest_overrun {m : BitVec 2} (hvalue : ¬ (w = 0 ∨ 3 < w.toNat)) (hrobot : robotCfg s r = some g)
    (hpending : s.robots[r].pendingMask = some m) :
    handoverRequest r w s =
      handoverResult r .overrun (loByte w) (raiseFlag flagOverrun (updRobot r withOverrun s)) := by
  rw [handoverRequest, if_neg hvalue, hrobot, if_neg nofun, hpending]
  rfl

/-- A request of a configured robot with a value of 1 to 3 and no hand-over pending goes by its reduced mask. -/
theorem handoverRequest_reduced (hvalue : ¬ (w = 0 ∨ 3 < w.toNat)) (hrobot : robotCfg s r = some g)
    (hpending : s.robots[r].pendingMask = none) :
    handoverRequest r w s =
      if maskTaken s g w = 0 then
        handoverResult r .ignored (loByte w) (ignoreEvent (handoverWord r) (emptyReason g w) w (afterDrop r w s))
      else if checking s.robots[r] then
        handoverResult r .pended ((maskTaken s g w).setWidth 8)
          (updRobot r (withPending (maskTaken s g w)) (afterDrop r w s))
      else handoverResult r .taken ((maskTaken s g w).setWidth 8)
        (performHandover r (maskTaken s g w) (afterDrop r w s)) := by
  have hchecking : checking s.robots[r] = checking (afterDrop r w s).robots[r] :=
    (checking_of_out (keepsBanks_afterDrop r w s).out).symm
  obtain ⟨dropped, hreduced, -⟩ := reducedMask_eq w hrobot
  rw [hchecking, afterDrop, handoverRequest, if_neg hvalue, hrobot, if_neg nofun, hpending, if_neg nofun, hreduced]
  rfl

end

/-! ### Ignored (R104, R106) -/

theorem robot_dropRecipe (r : Fin 8) (w : Word) (s : State) :
    (dropRecipe r w s).robots[r] = { s.robots[r] with recipeDrops := satInc s.robots[r].recipeDrops } := by
  rw [← robots_updRobot_self r (fun b => { b with recipeDrops := satInc b.recipeDrops }) s]
  simp [dropRecipe]

theorem pendingMask_afterDrop (r : Fin 8) (w : Word) (s : State) :
    (afterDrop r w s).robots[r].pendingMask = s.robots[r].pendingMask := by
  unfold afterDrop
  split
  · rw [robot_dropRecipe]
  · rfl

/-- A request answered IGNORED: the robots keep their roles, their masks and a pending hand-over, and all robots but
`r` stand. -/
def Ignored (c : Settings) (r : Fin 8) (s t : State) : Prop :=
  ∃ st, Answers c (handoverWord r) st [.robots] s t ∧ st.toNat / 4096 = 0 ∧ t.robots[r].out = s.robots[r].out ∧
    t.robots[r].masks = s.robots[r].masks ∧ t.robots[r].pendingMask = s.robots[r].pendingMask ∧
    ∀ q, q ≠ r → t.robots[q] = s.robots[q]

section
variable {s u : State} {c : Settings} {g : RobotCfg} {r : Fin 8} {w reason : Word}

/-- The subject of a REQUEST_IGNORED event is the request word's offset in the control page (R176). -/
theorem ignoreEvent_handoverWord (r : Fin 8) (reason w : Word) (u : State) :
    ignoreEvent (handoverWord r) reason w u = append .requestIgnored (16 + BitVec.ofNat 16 r.val) reason w u := by
  rw [ignoreEvent, BitVec.ofNat_add]
  rfl

/-- A request ignored after work that leads from the processor's slot to `u`, its reason the last event reported. -/
theorem ignored_after (hserving : Serving s c) (hkeeps : KeepsBanks r (granting .processor s) u)
    (hpending : u.robots[r].pendingMask = s.robots[r].pendingMask)
    (hrequest : handoverRequest r w (granting .processor s) =
      handoverResult r .ignored (loByte w) (ignoreEvent (handoverWord r) reason w u)) :
    Ignored c r s (afterHandover r w s) ∧ (afterHandover r w s).robots[r].recipeDrops = u.robots[r].recipeDrops ∧
      Asks u (afterHandover r w s) ∧
      ReportsOne .requestIgnored (16 + BitVec.ofNat 16 r.val) reason w u (afterHandover r w s) := by
  rw [ignoreEvent_handoverWord] at hrequest
  have hall := hkeeps.trans (keepsBanks_append r .requestIgnored (16 + BitVec.ofNat 16 r.val) reason w u)
  have hrec := recorded_afterHandover hserving hrequest hall
  have hrobot : (afterHandover r w s).robots[r] = withOutcome .ignored (loByte w) u.robots[r] := by
    rw [hrec.robot]
    simp
  refine ⟨⟨_, hrec.answers, handoverStatus_ignored _ _, ?_, ?_, ?_, hrec.others hall⟩, ?_, ?_, ?_⟩
  · rw [hrobot]
    exact hkeeps.out
  · rw [hrobot]
    exact hkeeps.masks
  · rw [hrobot]
    exact hpending
  · rw [hrobot]
    rfl
  · exact asks_trans (asks_append .requestIgnored _ reason w u) hrec.asks
  · exact hrec.reports (reportsOne_append .requestIgnored _ reason w u)

/-- A request ignored at once. -/
theorem ignored_at_once (hserving : Serving s c)
    (hrequest : handoverRequest r w (granting .processor s) =
      handoverResult r .ignored (loByte w) (ignoreEvent (handoverWord r) reason w (granting .processor s))) :
    Ignored c r s (afterHandover r w s) ∧
      Logs .requestIgnored (16 + BitVec.ofNat 16 r.val) reason w s (afterHandover r w s) := by
  obtain ⟨hignored, -, -, hreport⟩ := ignored_after hserving (KeepsBanks.refl r _) rfl hrequest
  exact ⟨hignored, (hreport.of_before (s := s) rfl rfl rfl).logs⟩

theorem value_of_HandoverOf (h : HandoverOf s c g r w) : ¬ (w = 0 ∨ 3 < w.toNat) := by
  obtain ⟨-, -, hne, hle, -⟩ := h
  exact not_or.mpr ⟨hne, Nat.not_lt.mpr hle⟩

theorem robotCfg_granting (hserving : Serving s c) : robotCfg (granting .processor s) r = c.robots[r] := by
  obtain ⟨-, hcfg, -, -⟩ := hserving
  rw [robotCfg, show (granting .processor s).cfg = some c from hcfg]

/-- An admitted request goes by the mask that is taken, as the processor's slot changes no level. -/
theorem handoverRequest_of_HandoverOf (h : HandoverOf s c g r w) :
    handoverRequest r w (granting .processor s) =
      if maskTaken s g w = 0 then
        handoverResult r .ignored (loByte w)
          (ignoreEvent (handoverWord r) (emptyReason g w) w (afterDrop r w (granting .processor s)))
      else if checking s.robots[r] then
        handoverResult r .pended ((maskTaken s g w).setWidth 8)
          (updRobot r (withPending (maskTaken s g w)) (afterDrop r w (granting .processor s)))
      else handoverResult r .taken ((maskTaken s g w).setWidth 8)
        (performHandover r (maskTaken s g w) (afterDrop r w (granting .processor s))) := by
  have hvalue := value_of_HandoverOf h
  obtain ⟨hserving, hrobot, -, -, hpending⟩ := h
  exact handoverRequest_reduced hvalue ((robotCfg_granting hserving).trans hrobot) hpending

theorem ignored_of_maskTaken_zero (h : HandoverOf s c g r w) (hzero : maskTaken s g w = 0) :
    let u := afterDrop r w (granting .processor s)
    Ignored c r s (afterHandover r w s) ∧ (afterHandover r w s).robots[r].recipeDrops = u.robots[r].recipeDrops ∧
      Asks u (afterHandover r w s) ∧
      ReportsOne .requestIgnored (16 + BitVec.ofNat 16 r.val) (emptyReason g w) w u (afterHandover r w s) := by
  have hrequest := handoverRequest_of_HandoverOf h
  rw [if_pos hzero] at hrequest
  obtain ⟨hserving, -, -, -, -⟩ := h
  exact ignored_after hserving (keepsBanks_afterDrop r w _) (pendingMask_afterDrop r w _) hrequest

theorem afterDrop_granting_of_drops (h : HandoverOf s c g r w) (hdrops : dropsRecipe s g w) :
    afterDrop r w (granting .processor s) = dropRecipe r w (granting .processor s) := by
  obtain ⟨hserving, hrobot, -, -, -⟩ := h
  obtain ⟨dropped, hreduced, hiff⟩ := reducedMask_eq w ((robotCfg_granting hserving).trans hrobot)
  rw [afterDrop, hreduced, if_pos (hiff.mpr hdrops)]

theorem afterDrop_granting_of_not_drops (h : HandoverOf s c g r w) (hdrops : ¬ dropsRecipe s g w) :
    afterDrop r w (granting .processor s) = granting .processor s := by
  obtain ⟨hserving, hrobot, -, -, -⟩ := h
  obtain ⟨dropped, hreduced, hiff⟩ := reducedMask_eq w ((robotCfg_granting hserving).trans hrobot)
  rw [afterDrop, hreduced, if_neg (mt hiff.mp hdrops)]

/-- A robot without a recipe section is asked for RECIPE alone: BAD_VALUE. -/
theorem badValue_logged_of_no_section (h : HandoverOf s c g r w) (hzero : maskTaken s g w = 0)
    (hempty : g.nOut = g.motion) :
    Logs .requestIgnored (16 + BitVec.ofNat 16 r.val) reasonBadValue w s (afterHandover r w s) := by
  have hreason : emptyReason g w = reasonBadValue := if_neg fun h => h.1 hempty
  obtain ⟨-, -, -, hreport⟩ := ignored_of_maskTaken_zero h hzero
  rw [hreason, afterDrop_granting_of_not_drops h fun hdrops => hdrops.1 hempty] at hreport
  exact (hreport.of_before (s := s) rfl rfl rfl).logs

/-- RECIPE alone without the level for it: RECIPE_DROPPED, counted, and then GRANT_LEVEL (R106). -/
theorem drop_then_grantLevel_logged (h : HandoverOf s c g r w) (hzero : maskTaken s g w = 0)
    (hdrops : dropsRecipe s g w) :
    (afterHandover r w s).robots[r].recipeDrops = satInc s.robots[r].recipeDrops ∧
      LogsTwo (Logs .recipeDropped (BitVec.ofNat 16 r.val) (BitVec.ofNat 16 (levelCode (effectiveLevel s))) w)
        (Logs .requestIgnored (16 + BitVec.ofNat 16 r.val) reasonGrantLevel w) s (afterHandover r w s) := by
  have ⟨hsection, _, hasked⟩ := hdrops
  have hreason : emptyReason g w = reasonGrantLevel := if_pos ⟨hsection, hasked⟩
  obtain ⟨-, hcount, hasks, hreport⟩ := ignored_of_maskTaken_zero h hzero
  rw [hreason, afterDrop_granting_of_drops h hdrops] at hreport
  rw [afterDrop_granting_of_drops h hdrops] at hcount hasks
  rw [robot_dropRecipe] at hcount
  have hdropped : ReportsOne .recipeDropped (BitVec.ofNat 16 r.val) (BitVec.ofNat 16 (levelCode (effectiveLevel s))) w s
      (dropRecipe r w (granting .processor s)) := (reportsOne_append _ _ _ _ _).of_before rfl rfl rfl
  obtain ⟨-, -, hreadIx, -⟩ := hdropped.frame
  exact ⟨hcount, _, by simp, by simp, hreadIx, hasks, hdropped.logs, hreport.logs⟩

/-! ### Pended and overrun (R105) -/

theorem handover_pended (h : HandoverOf s c g r w) (hchecking : checking s.robots[r] = true)
    (htaken : maskTaken s g w ≠ 0) :
    let t := afterHandover r w s
    t.robots[r].pendingMask = some (maskTaken s g w) ∧ t.robots[r].out = s.robots[r].out ∧
      t.robots[r].masks = s.robots[r].masks ∧ (∀ q, q ≠ r → t.robots[q] = s.robots[q]) ∧
      Answers c (handoverWord r) (0x2C00 ||| (maskTaken s g w).setWidth 16) [.robots] s t := by
  have hrequest := handoverRequest_of_HandoverOf h
  rw [if_neg htaken, if_pos hchecking] at hrequest
  obtain ⟨hserving, -, -, -, -⟩ := h
  have hkeeps : KeepsBanks r (granting .processor s) _ := (keepsBanks_afterDrop r w _).trans
    (keepsBanks_updRobot (f := withPending (maskTaken s g w)) r _ (fun _ => rfl) (fun _ => rfl))
  have hrec := recorded_afterHandover hserving hrequest hkeeps
  have hstill : checking (withPending (maskTaken s g w) (afterDrop r w (granting .processor s)).robots[r]) = true :=
    (checking_of_out (keepsBanks_afterDrop r w (granting .processor s)).out).trans hchecking
  have hanswers := hrec.answers
  rw [robots_updRobot_self, handoverStatus_pended _ hstill rfl] at hanswers
  refine ⟨?_, ?_, ?_, hrec.others hkeeps, hanswers⟩
  · rw [hrec.robot, robots_updRobot_self]
    rfl
  · rw [hrec.robot]
    exact hkeeps.out
  · rw [hrec.robot]
    exact hkeeps.masks

theorem updRobot_updRobot (r : Fin 8) (f f' : Robot → Robot) (s : State) :
    updRobot r f' (updRobot r f s) = updRobot r (f' ∘ f) s := by
  simp [updRobot, modAt]

/-- The overrun raises its flag alone, and no event goes with it. -/
theorem notice_raiseFlag_overrun (s : State) :
    Raises [flagOverrun] s (raiseFlag flagOverrun s) ∧ LogsNothing s (raiseFlag flagOverrun s) := by
  have hbit : (BitVec.ofNat 16 (2 ^ flagOverrun)).getLsbD flagEventDropped = false := by decide
  refine ⟨raises_raiseFlag flagOverrun (by decide) s, rfl, rfl, ?_⟩
  rw [raiseFlag_own, BitVec.getLsbD_or, hbit, Bool.or_false]

theorem handover_overrun {m : BitVec 2} (hserving : Serving s c) (hrobot : c.robots[r] = some g)
    (hvalue : ¬ (w = 0 ∨ 3 < w.toNat)) (hpending : s.robots[r].pendingMask = some m) :
    let t := afterHandover r w s
    t.robots = s.robots.set r { s.robots[r] with
      overruns := satInc s.robots[r].overruns, result := .overrun, maskByte := w.setWidth 8 } ∧
    Raises [flagOverrun] s t ∧ LogsNothing s t ∧
    Answers c (handoverWord r) (0x3400 ||| (if checking s.robots[r] then 0x0800 else 0) ||| (w &&& 0x00FF)) [.robots] s
      t := by
  have hrequest := handoverRequest_overrun (s := granting .processor s) hvalue
    ((robotCfg_granting hserving).trans hrobot) hpending
  have hkeeps := (keepsBanks_updRobot (f := withOverrun) r (granting .processor s) (fun _ => rfl) (fun _ => rfl)).trans
    (keepsBanks_raiseFlag r flagOverrun _)
  have hrec := recorded_afterHandover hserving hrequest hkeeps
  obtain ⟨hraises, hlogs⟩ := notice_raiseFlag_overrun (updRobot r withOverrun (granting .processor s))
  have hrobots : (raiseFlag flagOverrun (updRobot r withOverrun (granting .processor s))).robots[r] =
      withOverrun s.robots[r] := robots_updRobot_self r withOverrun (granting .processor s)
  have hpend : (withOverrun s.robots[r]).pendingMask.isSome = true := by
    rw [show (withOverrun s.robots[r]).pendingMask = some m from hpending]
    rfl
  have hanswers := hrec.answers
  rw [hrobots, handoverStatus_overrun w hpend] at hanswers
  refine ⟨?_, ?_, ?_, hanswers⟩
  · rw [hrec.robots]
    exact congrArg State.robots (updRobot_updRobot r withOverrun (withOutcome .overrun (loByte w)) s)
  · intro n hn
    rw [hrec.notice]
    exact hraises n hn
  · rw [LogsNothing, hrec.notice]
    exact hlogs

end

/-! ### The obligation -/

/-- Settles O40: an admitted request goes by its reduced mask, empty (ignored) or waiting for the check (pended); a
request that is not admitted is an overrun or ignored at once. -/
theorem handoverPendsOverrunsOrIsIgnored : Obligations.HandoverPendsOverrunsOrIsIgnored := by
  refine ⟨fun s c g r w => ⟨fun h hchecking htaken => ?_, fun m hserving hrobot hne hle hpending => ?_⟩,
    ?_⟩
  · exact ⟨_, exec_handover r w s, handover_pended h hchecking htaken⟩
  · obtain ⟨hrobots, hraises, hlogs, hanswers⟩ :=
      handover_overrun hserving hrobot (not_or.mpr ⟨hne, Nat.not_lt.mpr hle⟩) hpending
    exact ⟨_, _, exec_handover r w s, hrobots, hraises, hlogs, hanswers, rfl⟩
  intro s c r w hserving ignored logged
  have hignored : Ignored c r s (afterHandover r w s) → ignored :=
    fun ⟨st, hanswered⟩ => ⟨_, st, exec_handover r w s, hanswered⟩
  have hlogged : ∀ reason, Logs .requestIgnored (16 + BitVec.ofNat 16 r.val) reason w s (afterHandover r w s) →
      logged reason := fun _ h => ⟨_, exec_handover r w s, h⟩
  refine ⟨fun hbad => ?_, fun hne hle hrobot => ?_, fun g h hzero => ⟨?_, fun hempty => ?_, fun hsection => ?_⟩⟩
  · exact (ignored_at_once hserving (handoverRequest_badValue hbad)).imp hignored (hlogged _)
  · have hvalue : ¬ (w = 0 ∨ 3 < w.toNat) := not_or.mpr ⟨hne, Nat.not_lt.mpr hle⟩
    exact (ignored_at_once hserving (handoverRequest_notConfigured hvalue
      ((robotCfg_granting hserving).trans hrobot))).imp hignored (hlogged _)
  · obtain ⟨hshown, -⟩ := ignored_of_maskTaken_zero h hzero
    exact hignored hshown
  · exact hlogged _ (badValue_logged_of_no_section h hzero hempty)
  · have ⟨_, _, hne, hle, _⟩ := h
    have hdrops := dropsRecipe_of_maskTaken_zero hne hle hzero hsection
    exact ⟨hdrops, _, exec_handover r w s, drop_then_grantLevel_logged h hzero hdrops⟩

end Sys2Proof.OutputBanks
end

section
/-! Proofs about the notice words (11): the writes to the notice flag word, the enables and the global enable, and the
level of NOTICE_N. -/
namespace Sys2Proof.NoticeWords

open Sys2Proof Sys2Proof.Machine Sys2Proof.Claims Sys2Proof.Reports

/-! ### NOTICE_N (R179) -/

theorem and_ne_zero_iff_exists_common_bit (x y : Word) :
    x &&& y ≠ 0 ↔ ∃ n, x.getLsbD n = true ∧ y.getLsbD n = true := by
  constructor
  · intro hne
    refine Classical.byContradiction fun hnone => hne (BitVec.eq_of_getLsbD_eq fun n _ => ?_)
    rw [BitVec.getLsbD_and, Bool.and_eq_false_imp.mpr fun hx => Bool.eq_false_iff.mpr fun hy => hnone ⟨n, hx, hy⟩]
    exact BitVec.getLsbD_zero.symm
  · rintro ⟨n, hx, hy⟩ hzero
    have hbit : (x &&& y).getLsbD n = true := by rw [BitVec.getLsbD_and, hx, hy, Bool.and_self]
    simp [hzero] at hbit

theorem noticeAsserted_iff (s : State) :
    noticeAsserted s = true ↔ s.notice.globalEnable = true ∧
      ∃ n, s.notice.flags.getLsbD n = true ∧ s.notice.enables.getLsbD n = true := by
  rw [noticeAsserted, Bool.and_eq_true, bne_iff_ne, and_ne_zero_iff_exists_common_bit]

/-! ### Lanes stored (R93) -/

theorem readByte_writeLanes_outside (m : Memory) (a : Nat) (l : Lanes) (w : Word) {b : Nat}
    (hlow : ¬ (b = 2 * a ∧ l ≠ .upper)) (hhigh : ¬ (b = 2 * a + 1 ∧ l ≠ .lower)) :
    (m.writeLanes a l w).readByte b = m.readByte b := by
  cases l with
  | upper => exact readByte_other _ _ _ _ fun h => hhigh ⟨h, by decide⟩
  | lower => exact readByte_other _ _ _ _ fun h => hlow ⟨h, by decide⟩
  | both =>
    calc ((m.writeByte (2 * a) (loByte w)).writeByte (2 * a + 1) (hiByte w)).readByte b
        = (m.writeByte (2 * a) (loByte w)).readByte b := readByte_other _ _ _ _ fun h => hhigh ⟨h, by decide⟩
      _ = m.readByte b := readByte_other _ _ _ _ fun h => hlow ⟨h, by decide⟩

theorem storesLanes_of_sram {a : Nat} {l : Lanes} {w : Word} {s t : State}
    (hsram : t.sram = s.sram.writeLanes a l w) : StoresLanes a l w s t := by
  rw [StoresLanes, hsram]
  refine ⟨rfl, fun b => readByte_writeLanes_outside s.sram a l w, fun hwf => ⟨fun hl => ?_, fun hl => ?_⟩⟩
  · rw [readByte_writeLanes _ _ _ _ _ hwf, if_pos ⟨rfl, hl⟩]
    rfl
  · rw [readByte_writeLanes _ _ _ _ _ hwf, if_neg (by omega), if_pos ⟨rfl, hl⟩]
    rfl

theorem readWord_writeLanes_both {m : Memory} (a : Nat) (w : Word) (hwf : m.wf = true) :
    (m.writeLanes a .both w).readWord a = w :=
  (readWord_writeWord m a w a hwf).trans (if_pos rfl)

/-- With the lower lane carried, bit 0 of the stored word is that of the word written. -/
theorem bit_zero_writeLanes {m : Memory} (a : Nat) {l : Lanes} (w : Word) (hl : l ≠ .upper) (hwf : m.wf = true) :
    ((m.writeLanes a l w).readWord a).getLsbD 0 = w.getLsbD 0 := by
  rw [readWord_writeLanes _ _ _ _ _ hwf, if_pos rfl, if_neg hl, wordOf, BitVec.getLsbD_append]
  simp [loByte]

/-! ### A write into the control page, served (R90, R91) -/

theorem writeFate_page (c : Settings) (storing : Bool) (l : Lanes) {k : Nat} (hk : k < 4096) :
    writeFate c storing (c.page + k) l = pageWrite storing k l := by
  have hpage : inPage c (c.page + k) = true := by simp [inPage, hk]
  rw [writeFate, if_pos hpage, Nat.add_sub_cancel_left]

/-- A served write that meets neither a hold nor a class test goes toward memory at once. -/
theorem processorWrite_serving {s : State} {c : Settings} (hserving : Serving s c) {a : Nat} {l : Lanes} {f : Fate}
    (w : Word) (hfate : writeFate c s.bus.storing a l = f) (hhold : mustHold s f = false)
    (htest : classTest s f = none) :
    processorWrite a l w s = performWrite ⟨true, a, l, w, f, false, false⟩ (granting .processor s) := by
  obtain ⟨hactive, hcfg, haccess, harbiter⟩ := hserving
  have hclass : classify s true a l = f := (classify_active s c true a l hactive hcfg).trans hfate
  subst hclass
  exact processorWrite_granted s a l w haccess hhold htest harbiter

/-- So does a served write at an offset of the control page, by the fate of the offset. -/
theorem settle_pageWrite_serving {s : State} {c : Settings} (hserving : Serving s c) {k : Nat} {l : Lanes} {f : Fate}
    (w : Word) (hk : k < 4096) (hfate : pageWrite s.bus.storing k l = f) (hhold : mustHold s f = false)
    (htest : classTest s f = none) :
    settle s (processorWrite (pageBase s + k) l w s) =
      settle s (performWrite ⟨true, c.page + k, l, w, f, false, false⟩ (granting .processor s)) := by
  have ⟨_, hcfg, _, _⟩ := hserving
  have hbase : pageBase s = c.page := by simp [pageBase, hcfg]
  rw [hbase, processorWrite_serving hserving w ((writeFate_page c s.bus.storing l hk).trans hfate) hhold htest]

/-! ### What a write to a notice word leaves -/

/-- The state after a notice word is written in the processor's slot: SRAM and the Notice Unit as the write leaves them,
and the mirrors that follow asked for. -/
def noticeWritten (m : Memory) (n : NoticeUnit) (s : State) : State :=
  settle s { granting .processor s with sram := m, notice := n }

@[simp] theorem noticeWritten_sram (m : Memory) (n : NoticeUnit) (s : State) : (noticeWritten m n s).sram = m := by
  simp [noticeWritten]

@[simp] theorem noticeWritten_notice (m : Memory) (n : NoticeUnit) (s : State) : (noticeWritten m n s).notice = n := by
  simp [noticeWritten]

@[simp] theorem noticeWritten_bus (m : Memory) (n : NoticeUnit) (s : State) :
    (noticeWritten m n s).bus = (granting .processor s).bus := by
  simp [noticeWritten]

theorem onlyAsks_noticeWritten (m : Memory) (n : NoticeUnit) (s : State) :
    OnlyAsks [.sram, .notice, .bus] s (noticeWritten m n s) := by
  have hwritten : Only [.writer, .sram, .notice, .bus] s { granting .processor s with sram := m, notice := n } := by
    refine ⟨rfl, fun p hp => ?_⟩
    cases p
    case sram | notice | bus => simp at hp
    all_goals rfl
  exact ⟨only_trans hwritten (only_settle s _) (by simp), asks_trans (asks_of_writer_eq rfl) (asks_settle s _)⟩

/-! ### The three writes (R178, R179) -/

theorem exec_noticeFlagsWrite {s : State} {c : Settings} (hserving : Serving s c) (l : Lanes) (w : Word) :
    exec (.noticeFlagsWrite l w) s =
      .next (noticeWritten (s.sram.writeWord c.page (clearedFlags l w s.notice.flags))
        { s.notice with flags := clearedFlags l w s.notice.flags } s) :=
  congrArg Host.Outcome.next (settle_pageWrite_serving hserving (k := 0) w (by decide) rfl rfl rfl)

theorem exec_noticeEnablesWrite {s : State} {c : Settings} (hserving : Serving s c) (l : Lanes) (w : Word) :
    exec (.noticeEnablesWrite l w) s =
      .next (noticeWritten (s.sram.writeLanes (c.page + 1) l w)
        { s.notice with enables := (s.sram.writeLanes (c.page + 1) l w).readWord (c.page + 1) } s) :=
  congrArg Host.Outcome.next (settle_pageWrite_serving hserving (k := 1) w (by decide) rfl rfl rfl)

theorem exec_globalEnableWrite {s : State} {c : Settings} (hserving : Serving s c) (l : Lanes) (w : Word) :
    exec (.globalEnableWrite l w) s =
      .next (noticeWritten (s.sram.writeLanes (c.page + 2) l w)
        { s.notice with
          globalEnable := ((s.sram.writeLanes (c.page + 2) l w).readWord (c.page + 2)).getLsbD 0 } s) :=
  congrArg Host.Outcome.next (settle_pageWrite_serving hserving (k := 2) w (by decide) rfl rfl rfl)

/-- Settles O35: the line's level, and then each of the three words by what its write leaves in SRAM and in the Notice
Unit. -/
theorem noticeWordsTakeWrites : Obligations.NoticeWordsTakeWrites := by
  refine ⟨noticeAsserted_iff, fun s c l w hserving => ⟨?flags, ?enables, ?globalEnable⟩⟩
  case flags =>
    refine ⟨_, exec_noticeFlagsWrite hserving l w, noticeWritten_notice _ _ s, ?_, noticeWritten_bus _ _ s,
      onlyAsks_noticeWritten _ _ s⟩
    rw [Stores, noticeWritten_sram]
    exact stores_writeSram c.page (clearedFlags l w s.notice.flags) rfl
  case enables =>
    refine ⟨_, exec_noticeEnablesWrite hserving l w, storesLanes_of_sram (noticeWritten_sram _ _ s), by simp, ?_,
      noticeWritten_bus _ _ s, onlyAsks_noticeWritten _ _ s⟩
    rintro rfl hwf
    rw [noticeWritten_notice]
    exact readWord_writeLanes_both (c.page + 1) w hwf
  case globalEnable =>
    refine ⟨_, exec_globalEnableWrite hserving l w, storesLanes_of_sram (noticeWritten_sram _ _ s), by simp, ?_,
      noticeWritten_bus _ _ s, onlyAsks_noticeWritten _ _ s⟩
    intro hl hwf
    rw [noticeWritten_notice]
    exact bit_zero_writeLanes (c.page + 2) w hl hwf

end Sys2Proof.NoticeWords
end
